-- ==== Sys2Proof/Word.lean ====
section
/-! DEFINITION. The two word types of QSE: a 32-bit host register and an 8-bit field element, coefficient or codeword. -/

namespace Sys2Proof

/-- A host-visible register or a command word: 32 bits (10_state.md R21, 00_scope.md R4). -/
abbrev Word := BitVec 32

/-- A field element, polynomial coefficient or codeword: 8 bits (42_gf_scalar.md R140, 10_state.md R40). -/
abbrev Byte := BitVec 8

end Sys2Proof
end

