-- ==== Sys2Proof/Config.lean ====
section
/-! DEFINITION. The configuration parameters of 00_scope.md R3 and the one free value the spec leaves open
(70_reset_and_hazards.md R294). -/

namespace Sys2Proof

/-- The platform parameter BUS_BYTE_ORDER (20_memory.md R65): how a register's four bytes map to bus byte lanes. -/
inductive ByteOrder where
  | little
  | big
deriving DecidableEq, Repr

/-- The configuration parameters a model of QSE takes (00_scope.md R3; 92 D3, D11, D13; log 1, 2). -/
structure Config where
  /-- `BB_CAP_BITS`, the bits per bit buffer (at least 29648) -/
  bbCapBits    : Nat
  /-- `QSE_BASE`, the window's bus address -/
  qseBase      : Nat
  /-- `BUS_BYTE_ORDER` -/
  busByteOrder : ByteOrder
deriving DecidableEq, Repr

/-- The configuration `State.reset` takes: the spec's default capacity 32768 (00_scope.md section 4, 92 D3), and
DESIGN CHOICE a base of 0 and little-endian lanes, on which no rule depends (log 2, safe). -/
def Config.default : Config :=
  { bbCapBits := 32768, qseBase := 0, busByteOrder := .little }

/-- What a host read of a mirror register returns while BUSY = 1: "an unspecified value" (70_reset_and_hazards.md
R294, 10_state.md R31 and R33 to R35, 93 I7). A FREE VALUE: it has no body, and State's counter `draws` gives each read
a fresh one (log 6). -/
opaque Config.mirrorWhileBusy : Nat → Word

end Sys2Proof
end

