-- ==== Sys2Proof/Syntax.lean ====
section
/-! DEFINITION. The command set, version 1 (30_encoding.md R80 to R85): one constructor of `Instr` per row of the
opcode table, and the assembler line of R90. A command's operands are the latched ARG values (R83), so only BSEL is
part of the instruction. -/

namespace Sys2Proof

/-- The bit-buffer select of a command that takes one (30_encoding.md R82). -/
inductive BSel where
  | b0
  | b1
deriving DecidableEq, Repr

/-- The other buffer, `1 − b` (30_encoding.md R82). -/
def BSel.other : BSel → BSel
  | .b0 => .b1
  | .b1 => .b0

/-- The 33 commands of 30_encoding.md R85. -/
inductive Instr where
  | nop
  | bbClear (b : BSel)
  | bbWrite (b : BSel)
  | bbRead (b : BSel)
  | bbGetbit (b : BSel)
  | bbSetbit (b : BSel)
  | bbCount (b : BSel)
  | bbRdbyte (b : BSel)
  | bbEqual
  | gfAdd
  | gfMul
  | gfDiv
  | gfPow
  | gfExp
  | gfLog
  | plSetlen
  | plWrite
  | plRead
  | plGetlen
  | plAdd
  | plMul
  | plDiv
  | plGen
  | plMovra
  | rsEncode (b : BSel)
  | fmLoad
  | fmQuery
  | fmRowcnt
  | fmRowrange
  | matInit
  | matRead
  | matWrite
  | place (b : BSel)
deriving DecidableEq, Repr

/-- An assembler line `MNEMONIC[.b0|.b1] [arg0[, arg1[, arg2]]]` (30_encoding.md R90). The suffix is part of `instr`;
an omitted argument is `none`, and its ARG register is then not written. -/
structure AsmLine where
  instr : Instr
  arg0  : Option Word
  arg1  : Option Word
  arg2  : Option Word
deriving DecidableEq, Repr

end Sys2Proof
end

