-- ==== Sys2Proof/WellFormed.lean ====
section
/-! DEFINITION. Well-formedness checks. Every term of `Instr` is a legal command by its type (BSEL stands only on the
commands that take it, with its two values), so the checks are those of an assembler line, of a configuration and of a
host access. -/

namespace Sys2Proof

/-- 30_encoding.md R90: arguments are written `arg0[, arg1[, arg2]]`, so an argument stands only after the ones before
it. -/
def AsmLine.wellFormed (l : AsmLine) : Bool :=
  (l.arg0.isSome || l.arg1.isNone) && (l.arg1.isSome || l.arg2.isNone)

/-- 00_scope.md R3 with 92 D3 and D11: the capacity is at least 29648 and the base is 64-byte aligned. That the capacity
fits the 32-bit register BB_CAP (10_state.md R32) is DEDUCED (log 1). -/
def Config.wellFormed (c : Config) : Bool :=
  decide (29648 ≤ c.bbCapBits) && decide (c.bbCapBits < 2 ^ 32) && decide (c.qseBase % 64 = 0)

/-- 20_memory.md R61: a host access is defined only when it is 32 bits wide and its offset is a multiple of 4. -/
def accessDefined (width off : Nat) : Bool :=
  decide (width = 32) && decide (off % 4 = 0)

end Sys2Proof
end

