-- ==== Sys2Proof/Decode.lean ====
section
/-! DEFINITION. Decoding and encoding of command words (30_encoding.md R80 to R88). The decoder reads OP, BSEL and the
test RSV = 0 against the table of R85; it is total, and rejects an illegal word by the name of the condition of R86. -/

namespace Sys2Proof

/-- Why a command word is illegal: the three conditions of 30_encoding.md R86. -/
inductive Illegal where
  /-- CMD[31:9] ≠ 0 -/
  | reservedBits
  /-- OP is not in the table of R85 -/
  | unassignedOpcode
  /-- BSEL = 1 and the command takes no BSEL -/
  | bselNotTaken
deriving DecidableEq, Repr

/-- A row of the opcode map, 30_encoding.md R85. -/
structure OpRow where
  op   : BitVec 8
  bsel : Bool
  make : BSel → Instr

/-- The opcode map, rows 0x00 to 0x17: control and bit buffers (30_encoding.md R85). -/
def opRowsBits : List OpRow :=
  [ ⟨0x00#8, false, fun _ => .nop⟩
  , ⟨0x10#8, true,  .bbClear⟩
  , ⟨0x11#8, true,  .bbWrite⟩
  , ⟨0x12#8, true,  .bbRead⟩
  , ⟨0x13#8, true,  .bbGetbit⟩
  , ⟨0x14#8, true,  .bbSetbit⟩
  , ⟨0x15#8, true,  .bbCount⟩
  , ⟨0x16#8, true,  .bbRdbyte⟩
  , ⟨0x17#8, false, fun _ => .bbEqual⟩ ]

/-- The opcode map, rows 0x20 to 0x38: field and polynomial commands (30_encoding.md R85). -/
def opRowsField : List OpRow :=
  [ ⟨0x20#8, false, fun _ => .gfAdd⟩
  , ⟨0x21#8, false, fun _ => .gfMul⟩
  , ⟨0x22#8, false, fun _ => .gfDiv⟩
  , ⟨0x23#8, false, fun _ => .gfPow⟩
  , ⟨0x24#8, false, fun _ => .gfExp⟩
  , ⟨0x25#8, false, fun _ => .gfLog⟩
  , ⟨0x30#8, false, fun _ => .plSetlen⟩
  , ⟨0x31#8, false, fun _ => .plWrite⟩
  , ⟨0x32#8, false, fun _ => .plRead⟩
  , ⟨0x33#8, false, fun _ => .plGetlen⟩
  , ⟨0x34#8, false, fun _ => .plAdd⟩
  , ⟨0x35#8, false, fun _ => .plMul⟩
  , ⟨0x36#8, false, fun _ => .plDiv⟩
  , ⟨0x37#8, false, fun _ => .plGen⟩
  , ⟨0x38#8, false, fun _ => .plMovra⟩ ]

/-- The opcode map, rows 0x40 to 0x63: Reed-Solomon, function modules, matrix and placer (30_encoding.md R85). -/
def opRowsSymbol : List OpRow :=
  [ ⟨0x40#8, true,  .rsEncode⟩
  , ⟨0x50#8, false, fun _ => .fmLoad⟩
  , ⟨0x51#8, false, fun _ => .fmQuery⟩
  , ⟨0x52#8, false, fun _ => .fmRowcnt⟩
  , ⟨0x53#8, false, fun _ => .fmRowrange⟩
  , ⟨0x60#8, false, fun _ => .matInit⟩
  , ⟨0x61#8, false, fun _ => .matRead⟩
  , ⟨0x62#8, false, fun _ => .matWrite⟩
  , ⟨0x63#8, true,  .place⟩ ]

/-- The opcode map of 30_encoding.md R85: thirty-three rows. -/
def opRows : List OpRow :=
  opRowsBits ++ opRowsField ++ opRowsSymbol

/-- OP = CMD[7:0] (30_encoding.md R81). -/
def opOf (w : Word) : BitVec 8 :=
  w.extractLsb' 0 8

/-- BSEL = CMD[8] (30_encoding.md R82). -/
def bselOf (w : Word) : Bool :=
  w.getLsbD 8

/-- RSV = CMD[31:9] (30_encoding.md R80). -/
def rsvOf (w : Word) : BitVec 23 :=
  w.extractLsb' 9 23

/-- The buffer a BSEL bit names: 0 = B0, 1 = B1 (30_encoding.md R80). -/
def BSel.ofBit : Bool → BSel
  | false => .b0
  | true  => .b1

/-- The BSEL bit of a buffer. -/
def BSel.bit : BSel → Bool
  | .b0 => false
  | .b1 => true

/-- The row of an opcode, if it is assigned. -/
def opRow (op : BitVec 8) : Option OpRow :=
  opRows.find? (fun r => r.op == op)

/-- Decode a command word: total, and an illegal word is rejected by name (30_encoding.md R86, R88). -/
def decode (w : Word) : Except Illegal Instr :=
  if rsvOf w ≠ 0 then .error .reservedBits
  else
    match opRow (opOf w) with
    | none   => .error .unassignedOpcode
    | some r =>
      if r.bsel then .ok (r.make (BSel.ofBit (bselOf w)))
      else if bselOf w then .error .bselNotTaken
      else .ok (r.make .b0)

/-- The opcode of each command, read off 30_encoding.md R85 again, for the encoder. -/
def opcode : Instr → BitVec 8
  | .nop        => 0x00#8
  | .bbClear _  => 0x10#8
  | .bbWrite _  => 0x11#8
  | .bbRead _   => 0x12#8
  | .bbGetbit _ => 0x13#8
  | .bbSetbit _ => 0x14#8
  | .bbCount _  => 0x15#8
  | .bbRdbyte _ => 0x16#8
  | .bbEqual    => 0x17#8
  | .gfAdd      => 0x20#8
  | .gfMul      => 0x21#8
  | .gfDiv      => 0x22#8
  | .gfPow      => 0x23#8
  | .gfExp      => 0x24#8
  | .gfLog      => 0x25#8
  | .plSetlen   => 0x30#8
  | .plWrite    => 0x31#8
  | .plRead     => 0x32#8
  | .plGetlen   => 0x33#8
  | .plAdd      => 0x34#8
  | .plMul      => 0x35#8
  | .plDiv      => 0x36#8
  | .plGen      => 0x37#8
  | .plMovra    => 0x38#8
  | .rsEncode _ => 0x40#8
  | .fmLoad     => 0x50#8
  | .fmQuery    => 0x51#8
  | .fmRowcnt   => 0x52#8
  | .fmRowrange => 0x53#8
  | .matInit    => 0x60#8
  | .matRead    => 0x61#8
  | .matWrite   => 0x62#8
  | .place _    => 0x63#8

/-- The buffer select of a command that takes BSEL (30_encoding.md R85). -/
def bselField : Instr → Option BSel
  | .nop        => none
  | .bbClear b  => some b
  | .bbWrite b  => some b
  | .bbRead b   => some b
  | .bbGetbit b => some b
  | .bbSetbit b => some b
  | .bbCount b  => some b
  | .bbRdbyte b => some b
  | .bbEqual    => none
  | .gfAdd      => none
  | .gfMul      => none
  | .gfDiv      => none
  | .gfPow      => none
  | .gfExp      => none
  | .gfLog      => none
  | .plSetlen   => none
  | .plWrite    => none
  | .plRead     => none
  | .plGetlen   => none
  | .plAdd      => none
  | .plMul      => none
  | .plDiv      => none
  | .plGen      => none
  | .plMovra    => none
  | .rsEncode b => some b
  | .fmLoad     => none
  | .fmQuery    => none
  | .fmRowcnt   => none
  | .fmRowrange => none
  | .matInit    => none
  | .matRead    => none
  | .matWrite   => none
  | .place b    => some b

/-- The command word: `zext_32(OP)`, or `zext_32(OP) | (b << 8)` for a BSEL command (30_encoding.md R85). -/
def encode (i : Instr) : Word :=
  match bselField i with
  | none   => (opcode i).setWidth 32
  | some b => (opcode i).setWidth 32 ||| ((BitVec.ofBool b.bit).setWidth 32 <<< 8)

/-- The instruction the decoder reads from an opcode-table word of `nbits` bits, every bit above them 0: a command is
one 32-bit number, so the word is that number. -/
def decodeTableWord (nbits w : Nat) : Option Instr :=
  if w % 2 ^ nbits < 2 ^ 32 then
    match decode (BitVec.ofNat 32 (w % 2 ^ nbits)) with
    | .ok i    => some i
    | .error _ => none
  else none

end Sys2Proof
end

