-- ==== Sys2Proof/Machine/State.lean ====
section
/-! DEFINITION. The state of QSE (10_state.md), its reset (70_reset_and_hazards.md R290), and the reasons a step can
stop. State is plain data. -/

namespace Sys2Proof.Machine

/-- The contents of an internal store as (address, byte) pairs. Canonical form: addresses strictly rising and no entry
equal to what an unlisted address reads as, which is 0, the reset contents of every store of QSE (R290; log 8). -/
abbrev Memory := List Host.Cell

/-- The canonical form of a `Memory`. -/
abbrev Memory.wf (m : Memory) : Prop :=
  m.Pairwise (fun a b => a.1 < b.1) ∧ ∀ c ∈ m, c.2 ≠ 0

/-- The outcome of a command: OK or an error code (60_exceptions.md R262). Codes 7 to 15 are never produced, so they
have no constructor. -/
inductive ErrCode where
  | ok
  | illegalCommand
  | outOfRange
  | invalidArgument
  | notSupported
  | divideByZero
  | capacityExceeded
deriving DecidableEq, Repr

/-- The pending-command latch (10_state.md R37): the CMD word and the ARG values at acceptance. That it is non-empty is
STATUS.BUSY, stored once there; an empty latch holds zero words (log 7). -/
structure Latch where
  cmd : Word
  a0  : Word
  a1  : Word
  a2  : Word
deriving DecidableEq, Repr

/-- The empty latch. -/
def Latch.empty : Latch :=
  { cmd := 0, a0 := 0, a1 := 0, a2 := 0 }

/-- A bit buffer (10_state.md R38): its logical length, and its bits. Byte k of the store holds buffer bits 8k to 8k+7,
bit 8k as its most significant bit (00_scope.md R5). -/
structure BitBuffer where
  count : Nat
  bits  : Memory
deriving DecidableEq, Repr

/-- An empty bit buffer: count 0 and every bit 0. -/
def BitBuffer.empty : BitBuffer :=
  { count := 0, bits := [] }

/-- A polynomial memory and its length (10_state.md R40). Coefficients at or beyond the length keep their values. -/
structure Poly where
  len  : Nat
  coef : Memory
deriving DecidableEq, Repr

/-- A polynomial memory after reset: length 0, every coefficient 0. -/
def Poly.empty : Poly :=
  { len := 0, coef := [] }

/-- What the outside does next (00_scope.md R2, 20_memory.md R69, 70_reset_and_hazards.md R290), and where the engine's
atomic step falls among the host's accesses (20_memory.md R64; log 3). -/
inductive Event where
  /-- HostWrite of `value`, `width` bits wide, at window offset `off` -/
  | hostWrite (width off : Nat) (value : Word)
  /-- HostRead, `width` bits wide, at window offset `off` -/
  | hostRead (width off : Nat)
  /-- the platform's reset input is asserted -/
  | platformReset
  /-- the engine takes its step here, if a command is pending -/
  | engineTurn
deriving DecidableEq, Repr

/-- The state of QSE: what 10_state.md gives it, the configuration (00_scope.md R3) that no step changes, and three
fields of the model's own (`events`, `readData`, `draws`). -/
structure State where
  /-- the configuration parameters (R3; log 1) -/
  cfg      : Config
  /-- ARG0 (R23) -/
  arg0     : Word
  /-- ARG1 (R23) -/
  arg1     : Word
  /-- ARG2 (R23) -/
  arg2     : Word
  /-- RES0 (R24) -/
  res0     : Word
  /-- RES1 (R24) -/
  res1     : Word
  /-- STATUS.BUSY (R25); also that the latch is non-empty (R37) -/
  busy     : Bool
  /-- STATUS.OVERRUN (R27) -/
  overrun  : Bool
  /-- STATUS.ERR (R28) -/
  err      : ErrCode
  /-- STATUS.LASTOP (R29) -/
  lastop   : BitVec 8
  /-- the pending-command latch (R37) -/
  latch    : Latch
  /-- bit buffer B0 (R38) -/
  b0       : BitBuffer
  /-- bit buffer B1 (R38) -/
  b1       : BitBuffer
  /-- PA and LA (R40) -/
  pa       : Poly
  /-- PB and LB (R40) -/
  pb       : Poly
  /-- PR and LR (R40) -/
  pr       : Poly
  /-- FMC.valid (R43): bit v−1 is the valid bit of version v -/
  fmc      : BitVec 40
  /-- MV, the matrix version, 0 when no matrix is set up (R44) -/
  mv       : Nat
  /-- M, the module matrix (R44): cell (x, y) is bit 177·x + y of the store (log 8) -/
  mat      : Memory
  /-- the model's own: what the outside does next (log 3) -/
  events   : List Event
  /-- the model's own: the value the last host read returned (log 5) -/
  readData : Word
  /-- the model's own: how many unspecified values have been drawn (log 6) -/
  draws    : Nat
deriving DecidableEq, Repr

/-- The state right after reset under a configuration (70_reset_and_hazards.md R290); the model's own fields at their
DESIGN CHOICE values (log 3, 5, 6). -/
def State.resetWith (c : Config) : State :=
  { cfg := c
    arg0 := 0, arg1 := 0, arg2 := 0
    res0 := 0, res1 := 0
    busy := false, overrun := false, err := .ok, lastop := 0
    latch := Latch.empty
    b0 := BitBuffer.empty, b1 := BitBuffer.empty
    pa := Poly.empty, pb := Poly.empty, pr := Poly.empty
    fmc := 0
    mv := 0, mat := []
    events := [], readData := 0, draws := 0 }

/-- The machine right after reset, with the spec's default capacity (70_reset_and_hazards.md R290, 92 D3). -/
def State.reset : State :=
  State.resetWith Config.default

/-- The reasons a step can stop with a fault: none. "QSE has no trap" (60_exceptions.md R270), every command ends in
success or an error code (R260), and "No access to the window ever faults" (20_memory.md R61). Safe (log 20). -/
inductive Fault where
deriving DecidableEq, Repr

/-- The reasons a step can be refused. -/
inductive Refusal where
  /-- raised by an arm of `exec` whose instruction has no meaning yet; no arm raises it now. Safe: nothing is claimed
  of such a step -/
  | notModelled (mnemonic : String)
deriving DecidableEq, Repr

end Sys2Proof.Machine
end

