-- ==== Sys2Proof/Machine/Operands.lean ====
section
/-! DEFINITION. Operand assembly (30_encoding.md R83): operands come from the latched ARG values, as value operands, as
integer operands, or as RS_ENCODE's packed groups. -/

namespace Sys2Proof.Machine

/-- Integer operand ARG0: all 32 bits, unsigned, as an exact integer (R83, 92 D31). -/
def State.int0 (s : State) : Nat := s.latch.a0.toNat

/-- Integer operand ARG1 (R83). -/
def State.int1 (s : State) : Nat := s.latch.a1.toNat

/-- Integer operand ARG2 (R83). -/
def State.int2 (s : State) : Nat := s.latch.a2.toNat

/-- Value operand, a field element ARG0[7:0]; the upper bits are ignored (R83, 92 D30). -/
def State.elem0 (s : State) : Byte := s.latch.a0.extractLsb' 0 8

/-- Value operand, a field element ARG1[7:0] (R83). -/
def State.elem1 (s : State) : Byte := s.latch.a1.extractLsb' 0 8

/-- Value operand, a field element ARG2[7:0] (R83). -/
def State.elem2 (s : State) : Byte := s.latch.a2.extractLsb' 0 8

/-- Value operand, a bit ARG1[0] (R83). -/
def State.bit1 (s : State) : Bool := s.latch.a1.getLsbD 0

/-- Value operand, a bit ARG2[0] (R83). -/
def State.bit2 (s : State) : Bool := s.latch.a2.getLsbD 0

/-- BB_WRITE's value operand: all 32 bits of ARG1 (R83, 41_bitbuffer.md R112). -/
def State.value1 (s : State) : Word := s.latch.a1

/-- A packed block group: its block count, bits 7:0 (R83, 44_rs_encoder.md R190). -/
def groupCount (w : Word) : Nat := (w.extractLsb' 0 8).toNat

/-- A packed block group: dataCodewordsPerBlock, bits 15:8 (R83). -/
def groupData (w : Word) : Nat := (w.extractLsb' 8 8).toNat

/-- A packed block group: bits 31:16, which must be 0 (R83). -/
def groupRsv (w : Word) : BitVec 16 := w.extractLsb' 16 16

/-- The result word `zext_32(v)` of a byte (00_scope.md R4). -/
def zextByte (v : Byte) : Word := v.setWidth 32

/-- The result word of one bit (00_scope.md R4). -/
def zextBit (v : Bool) : Word := (BitVec.ofBool v).setWidth 32

/-- The result word of an integer result. Every such result of QSE is below 2^32 in a reachable state (log 16). -/
def wordOf (n : Nat) : Word := BitVec.ofNat 32 n

end Sys2Proof.Machine
end

