-- ==== Sys2Proof/Machine/Flags.lean ====
section
/-! DEFINITION. The STATUS register, QSE's only flags (10_state.md R26, R46), and the error code values
(60_exceptions.md R262). -/

namespace Sys2Proof.Machine

/-- The value of an error code in STATUS.ERR (60_exceptions.md R262). -/
def ErrCode.code : ErrCode → BitVec 4
  | .ok               => 0#4
  | .illegalCommand   => 1#4
  | .outOfRange       => 2#4
  | .invalidArgument  => 3#4
  | .notSupported     => 4#4
  | .divideByZero     => 5#4
  | .capacityExceeded => 6#4

/-- STATUS as a host read sees it (10_state.md R26): BUSY at bit 0, OVERRUN at bit 1, ERR at 7:4, LASTOP at 15:8, every
other bit 0. -/
def State.statusWord (s : State) : Word :=
  (BitVec.ofBool s.busy).setWidth 32
    ||| ((BitVec.ofBool s.overrun).setWidth 32 <<< 1)
    ||| (s.err.code.setWidth 32 <<< 4)
    ||| (s.lastop.setWidth 32 <<< 8)

/-- OVERRUN after a host write of `v` to STATUS: bit 1 is write-1-to-clear (10_state.md R27). -/
def overrunAfterWrite (old : Bool) (v : Word) : Bool :=
  old && !(v.getLsbD 1)

end Sys2Proof.Machine
end

