-- ==== Sys2Proof/Machine/Ops.lean ====
section
/-! DEFINITION. The named operations over QSE's stores and registers, and the one way a command ends: completion
(60_exceptions.md R261). QSE has no trap and no trap return (R270, R271), so completion with an error code stands where
another machine takes an exception. -/

namespace Sys2Proof.Machine

/-! ### Byte stores -/

/-- The byte at an address; an unlisted address reads 0 (70_reset_and_hazards.md R290). -/
def Memory.read : Memory → Nat → Byte
  | [], _ => 0
  | (a, v) :: rest, k => if a = k then v else Memory.read rest k

/-- The store with no entry for an address. -/
def Memory.erase (m : Memory) (k : Nat) : Memory :=
  m.filter (fun c => c.1 != k)

/-- Insert an entry before the first higher address. -/
def Memory.insert : Memory → Nat → Byte → Memory
  | [], k, v => [(k, v)]
  | (a, w) :: rest, k, v => if k < a then (k, v) :: (a, w) :: rest else (a, w) :: Memory.insert rest k v

/-- Write one byte, keeping the canonical form: writing 0, what an unlisted address reads as, removes the entry. -/
def Memory.write (m : Memory) (k : Nat) (v : Byte) : Memory :=
  if v = 0 then m.erase k else (m.erase k).insert k v

/-- Write consecutive bytes from an address on. -/
def Memory.writeBytes : Memory → Nat → List Byte → Memory
  | m, _, [] => m
  | m, k, v :: vs => Memory.writeBytes (m.write k v) (k + 1) vs

/-- Read `n` consecutive bytes from an address on. -/
def Memory.readBytes (m : Memory) (k n : Nat) : List Byte :=
  (List.range n).map (fun i => m.read (k + i))

/-! ### Bits of a byte store, most significant bit of each byte first (00_scope.md R5, 20_memory.md R66) -/

/-- A byte with one bit (numbered from the least significant) replaced. -/
def setByteBit (b : Byte) (j : Nat) (v : Bool) : Byte :=
  if v then b ||| BitVec.twoPow 8 j else b &&& ~~~ BitVec.twoPow 8 j

/-- Bit i of a store: bit 8k is the most significant bit of byte k. -/
def Memory.readBit (m : Memory) (i : Nat) : Bool :=
  (m.read (i / 8)).getLsbD (7 - i % 8)

/-- Write bit i of a store. -/
def Memory.writeBit (m : Memory) (i : Nat) (v : Bool) : Memory :=
  m.write (i / 8) (setByteBit (m.read (i / 8)) (7 - i % 8) v)

/-- Write consecutive bits from a position on. -/
def Memory.writeBits : Memory → Nat → List Bool → Memory
  | m, _, [] => m
  | m, p, v :: vs => Memory.writeBits (m.writeBit p v) (p + 1) vs

/-- Read `n` consecutive bits from a position on. -/
def Memory.readBits (m : Memory) (p n : Nat) : List Bool :=
  (List.range n).map (fun k => m.readBit (p + k))

/-- The number a sequence of bits stands for, most significant bit first: Σ bit k << (n − 1 − k). -/
def bitsToNat : List Bool → Nat
  | [] => 0
  | b :: bs => b.toNat * 2 ^ bs.length + bitsToNat bs

/-- The low `n` bits of a value, most significant bit first (20_memory.md R66): bit k is value bit n − 1 − k. -/
def msbFirst (value : Word) (n : Nat) : List Bool :=
  (List.range n).map (fun k => value.getLsbD (n - 1 - k))

/-! ### Registers and units -/

/-- B[b] (41_bitbuffer.md R110). -/
def State.buf (s : State) : BSel → BitBuffer
  | .b0 => s.b0
  | .b1 => s.b1

/-- Replace B[b]. -/
def State.setBuf (s : State) (b : BSel) (x : BitBuffer) : State :=
  match b with
  | .b0 => { s with b0 := x }
  | .b1 => { s with b1 := x }

/-- `RES0 <- v` (00_scope.md R6). -/
def State.setRes0 (s : State) (v : Word) : State := { s with res0 := v }

/-- `RES1 <- v` (00_scope.md R6). -/
def State.setRes1 (s : State) (v : Word) : State := { s with res1 := v }

/-- Replace PA and LA. -/
def State.setPa (s : State) (p : Poly) : State := { s with pa := p }

/-- Replace PB and LB. -/
def State.setPb (s : State) (p : Poly) : State := { s with pb := p }

/-- Replace PR and LR. -/
def State.setPr (s : State) (p : Poly) : State := { s with pr := p }

/-- FMC.valid[v] (10_state.md R43). -/
def State.fmcValid (s : State) (v : Nat) : Bool := s.fmc.getLsbD (v - 1)

/-- `FMC.valid[v] <- 1` (45_function_modules.md R223). -/
def State.markFmc (s : State) (v : Nat) : State := { s with fmc := s.fmc ||| BitVec.twoPow 40 (v - 1) }

/-- Replace the matrix version and the matrix. -/
def State.setMatrix (s : State) (v : Nat) (m : Memory) : State := { s with mv := v, mat := m }

/-- The place of matrix cell (x, y) in its store (log 8). -/
def cellIndex (x y : Nat) : Nat := 177 * x + y

/-- M[x][y] (10_state.md R44). -/
def State.cell (s : State) (x y : Nat) : Bool := s.mat.readBit (cellIndex x y)

/-! ### Completion -/

/-- The end of a command (60_exceptions.md R261): ERR, LASTOP, BUSY and the latch. OVERRUN is not changed. -/
def State.complete (s : State) (code : ErrCode) : State :=
  { s with err := code, lastop := opOf s.latch.cmd, busy := false, latch := Latch.empty }

/-- A command's own outcome: an error code, or the state with its writes (00_scope.md R6). -/
abbrev Effect := Except ErrCode State

/-- The engine step of one command (60_exceptions.md R260, R261): a success commits the writes the command's rule made;
a failure discards them, so that nothing but STATUS (and the latch) changes. -/
def finish (s : State) (r : Effect) : State :=
  match r with
  | .ok t    => t.complete .ok
  | .error e => s.complete e

/-- The three outcomes of a step of this machine. -/
abbrev Result := Host.Outcome State Fault Refusal

/-- Every command ends in a next state (60_exceptions.md R260). -/
def done (s : State) (r : Effect) : Result :=
  .next (finish s r)

end Sys2Proof.Machine
end

