-- ==== Sys2Proof/Machine/Control.lean ====
section
/-! DEFINITION. The control command (40_control.md). -/

namespace Sys2Proof.Machine

/-- NOP (40_control.md R100): no operation beyond completion. -/
def execNop (s : State) : Result :=
  done s (.ok s)

/-- What the engine does with an illegal command word (30_encoding.md R86, 60_exceptions.md R263): it completes with
ILLEGAL_COMMAND and no other effect. -/
def illegalCommand (s : State) : Result :=
  done s (.error .illegalCommand)

end Sys2Proof.Machine
end

