-- ==== Sys2Proof/Machine/BitBuffer.lean ====
section
/-! DEFINITION. The bit-buffer commands (41_bitbuffer.md). -/

namespace Sys2Proof.Machine

/-- `byte_count = ceil(count / 8)` (41_bitbuffer.md R111). -/
def BitBuffer.byteCount (x : BitBuffer) : Nat := (x.count + 7) / 8

/-- `bitz`: bit i, every bit at or beyond `count` read as 0 (41_bitbuffer.md R111). -/
def BitBuffer.bitz (x : BitBuffer) (i : Nat) : Bool :=
  if i < x.count then x.bits.readBit i else false

/-- `byte(b, k)`: byte k of the zero-padded byte view (41_bitbuffer.md R111). -/
def BitBuffer.byteAt (x : BitBuffer) (k : Nat) : Byte :=
  BitVec.ofNat 8 (bitsToNat ((List.range 8).map (fun j => x.bitz (8 * k + j))))

/-- The buffer with the low `n` bits of `value` written at `pos`, and `count` extended to cover them (R112). -/
def BitBuffer.writeValue (x : BitBuffer) (pos : Nat) (value : Word) (n : Nat) : BitBuffer :=
  { count := max x.count (pos + n), bits := x.bits.writeBits pos (msbFirst value n) }

/-- Equal counts and equal bits below the count (41_bitbuffer.md R121). -/
def BitBuffer.sameContent (x y : BitBuffer) : Bool :=
  decide (x.count = y.count) && (List.range x.count).all (fun i => x.bits.readBit i == y.bits.readBit i)

/-- BB_CLEAR (41_bitbuffer.md R116). -/
def execBbClear (b : BSel) (s : State) : Result :=
  done s (.ok (s.setBuf b BitBuffer.empty))

/-- The checks and writes of BB_WRITE (41_bitbuffer.md R112): pos = ARG0, value = ARG1, nbits = ARG2. -/
def bbWriteEffect (b : BSel) (s : State) : Effect :=
  if s.int2 > 32 then .error .outOfRange
  else if s.value1.toNat ≥ 2 ^ s.int2 then .error .outOfRange
  else if s.int0 + s.int2 > s.cfg.bbCapBits then .error .capacityExceeded
  else .ok (s.setBuf b ((s.buf b).writeValue s.int0 s.value1 s.int2))

/-- BB_WRITE (41_bitbuffer.md R112). -/
def execBbWrite (b : BSel) (s : State) : Result :=
  done s (bbWriteEffect b s)

/-- The checks and writes of BB_READ (41_bitbuffer.md R113): pos = ARG0, nbits = ARG1. -/
def bbReadEffect (b : BSel) (s : State) : Effect :=
  if s.int1 > 32 then .error .outOfRange
  else if s.int0 + s.int1 > (s.buf b).count then .error .outOfRange
  else .ok (s.setRes0 (wordOf (bitsToNat ((s.buf b).bits.readBits s.int0 s.int1))))

/-- BB_READ (41_bitbuffer.md R113). -/
def execBbRead (b : BSel) (s : State) : Result :=
  done s (bbReadEffect b s)

/-- BB_GETBIT (41_bitbuffer.md R114): i = ARG0. -/
def execBbGetbit (b : BSel) (s : State) : Result :=
  done s (if s.int0 ≥ (s.buf b).count then .error .outOfRange
    else .ok (s.setRes0 (zextBit ((s.buf b).bits.readBit s.int0))))

/-- BB_SETBIT (41_bitbuffer.md R115): i = ARG0, v = ARG1[0]; `count` never changes. -/
def execBbSetbit (b : BSel) (s : State) : Result :=
  done s (if s.int0 ≥ (s.buf b).count then .error .outOfRange
    else .ok (s.setBuf b { s.buf b with bits := (s.buf b).bits.writeBit s.int0 s.bit1 }))

/-- BB_COUNT (41_bitbuffer.md R117). -/
def execBbCount (b : BSel) (s : State) : Result :=
  done s (.ok ((s.setRes0 (wordOf (s.buf b).count)).setRes1 (wordOf (s.buf b).byteCount)))

/-- BB_RDBYTE (41_bitbuffer.md R118): k = ARG0. -/
def execBbRdbyte (b : BSel) (s : State) : Result :=
  done s (if s.int0 ≥ (s.buf b).byteCount then .error .outOfRange
    else .ok (s.setRes0 (zextByte ((s.buf b).byteAt s.int0))))

/-- BB_EQUAL (41_bitbuffer.md R121). -/
def execBbEqual (s : State) : Result :=
  done s (.ok (s.setRes0 (zextBit (s.b0.sameContent s.b1))))

end Sys2Proof.Machine
end

