-- ==== Sys2Proof/Machine/FunctionModules.lean ====
section
/-! DEFINITION. The function-module map, its row ranges and counts, and the FM commands (45_function_modules.md). The
geometry of R212 to R219 is the spec's from general knowledge (log 11). -/

namespace Sys2Proof.Machine

/-! ### The map -/

/-- N(v) = 17 + 4·v (45_function_modules.md R210). -/
def sideLen (v : Nat) : Nat := 17 + 4 * v

/-- A legal version, 1..40 (45_function_modules.md R210). -/
def isVersion (v : Nat) : Bool := decide (1 ≤ v) && decide (v ≤ 40)

/-- Rows 1 to 20 of the alignment-centre table (45_function_modules.md R213). -/
def alignRowsLow : List (List Nat) :=
  [ []
  , [6, 18]
  , [6, 22]
  , [6, 26]
  , [6, 30]
  , [6, 34]
  , [6, 22, 38]
  , [6, 24, 42]
  , [6, 26, 46]
  , [6, 28, 50]
  , [6, 30, 54]
  , [6, 32, 58]
  , [6, 34, 62]
  , [6, 26, 46, 66]
  , [6, 26, 48, 70]
  , [6, 26, 50, 74]
  , [6, 30, 54, 78]
  , [6, 30, 56, 82]
  , [6, 30, 58, 86]
  , [6, 34, 62, 90] ]

/-- Rows 21 to 40 of the alignment-centre table (45_function_modules.md R213). -/
def alignRowsHigh : List (List Nat) :=
  [ [6, 28, 50, 72, 94]
  , [6, 26, 50, 74, 98]
  , [6, 30, 54, 78, 102]
  , [6, 28, 54, 80, 106]
  , [6, 32, 58, 84, 110]
  , [6, 30, 58, 86, 114]
  , [6, 34, 62, 90, 118]
  , [6, 26, 50, 74, 98, 122]
  , [6, 30, 54, 78, 102, 126]
  , [6, 26, 52, 78, 104, 130]
  , [6, 30, 56, 82, 108, 134]
  , [6, 34, 60, 86, 112, 138]
  , [6, 30, 58, 86, 114, 142]
  , [6, 34, 62, 90, 118, 146]
  , [6, 30, 54, 78, 102, 126, 150]
  , [6, 24, 50, 76, 102, 128, 154]
  , [6, 28, 54, 80, 106, 132, 158]
  , [6, 32, 58, 84, 110, 136, 162]
  , [6, 26, 54, 82, 110, 138, 166]
  , [6, 30, 58, 86, 114, 142, 170] ]

/-- AC(v), the alignment-pattern centre coordinates (45_function_modules.md R213). -/
def alignCentres (v : Nat) : List Nat :=
  if v ≤ 20 then alignRowsLow.getD (v - 1) [] else alignRowsHigh.getD (v - 21) []

/-- The three 8×8 finder-plus-separator regions (45_function_modules.md R212). -/
def inFinder (n x y : Nat) : Bool :=
  (decide (x < 8) && decide (y < 8))
    || (decide (n - 8 ≤ x) && decide (y < 8))
    || (decide (x < 8) && decide (n - 8 ≤ y))

/-- A coordinate lies within 2 of a centre: c − 2 ≤ x ≤ c + 2 (45_function_modules.md R214). -/
def nearCentre (c x : Nat) : Bool := decide (c ≤ x + 2) && decide (x ≤ c + 2)

/-- The 5×5 square around (cx, cy) intersects a finder region (45_function_modules.md R214): the ranges cx−2..cx+2 and
cy−2..cy+2 meet the region's ranges. -/
def squareMeetsFinder (n cx cy : Nat) : Bool :=
  (decide (cx < 10) && decide (cy < 10))
    || (decide (n - 8 ≤ cx + 2) && decide (cy < 10))
    || (decide (cx < 10) && decide (n - 8 ≤ cy + 2))

/-- The alignment patterns (45_function_modules.md R214). -/
def inAlignment (v x y : Nat) : Bool :=
  (alignCentres v).any (fun cx => nearCentre cx x &&
    (alignCentres v).any (fun cy => nearCentre cy y && !squareMeetsFinder (sideLen v) cx cy))

/-- The timing lines, row 6 and column 6 (45_function_modules.md R215). -/
def inTiming (x y : Nat) : Bool := decide (y = 6) || decide (x = 6)

/-- The dark module (45_function_modules.md R216). -/
def isDarkModule (n x y : Nat) : Bool := decide (x = 8) && decide (y = n - 8)

/-- The format-information area (45_function_modules.md R217). -/
def inFormat (n x y : Nat) : Bool :=
  (decide (x = 8) && decide (y ≤ 8))
    || (decide (y = 8) && decide (x ≤ 8))
    || (decide (y = 8) && decide (n - 8 ≤ x))
    || (decide (x = 8) && decide (n - 8 ≤ y))

/-- The version-information area, v ≥ 7 only (45_function_modules.md R218). -/
def inVersionInfo (v n x y : Nat) : Bool :=
  decide (7 ≤ v) &&
    ((decide (x ≤ 5) && decide (n - 11 ≤ y) && decide (y ≤ n - 9))
      || (decide (n - 11 ≤ x) && decide (x ≤ n - 9) && decide (y ≤ 5)))

/-- F(v, x, y) for x, y < N(v): the union of the stamps, and no other cell (45_function_modules.md R211, R219). -/
def isFunction (v x y : Nat) : Bool :=
  inTiming x y
    || inFinder (sideLen v) x y
    || inFormat (sideLen v) x y
    || isDarkModule (sideLen v) x y
    || inVersionInfo v (sideLen v) x y
    || inAlignment v x y

/-! ### Derived counts and row ranges -/

/-- The number of data modules in row y (45_function_modules.md R220). -/
def rowDataCount (v y : Nat) : Nat :=
  (List.range (sideLen v)).countP (fun x => !isFunction v x y)

/-- DM(v), the number of data modules (45_function_modules.md R220). -/
def dataModules (v : Nat) : Nat :=
  ((List.range (sideLen v)).map (rowDataCount v)).sum

/-- TC(v) = floor(DM(v) / 8) (45_function_modules.md R220; log 12). -/
def totalCodewords (v : Nat) : Nat := dataModules v / 8

/-- The maximal runs of consecutive places where `p` holds, as (start, length), over `n` places from `x` on; `open?` is
the start of the run that place x − 1 belongs to, if any (45_function_modules.md R222). -/
def runsFrom (p : Nat → Bool) : Nat → Nat → Option Nat → List (Nat × Nat)
  | 0, _, none => []
  | 0, x, some st => [(st, x - st)]
  | n + 1, x, none => if p x then runsFrom p n (x + 1) (some x) else runsFrom p n (x + 1) none
  | n + 1, x, some st =>
    if p x then runsFrom p n (x + 1) (some st) else (st, x - st) :: runsFrom p n (x + 1) none

/-- RR(v, y), the maskable ranges of a row (45_function_modules.md R222). -/
def rowRanges (v y : Nat) : List (Nat × Nat) :=
  runsFrom (fun x => !isFunction v x y) (sideLen v) 0 none

/-! ### Commands -/

/-- FM_LOAD (45_function_modules.md R224): v = ARG0. -/
def execFmLoad (s : State) : Result :=
  done s (if !isVersion s.int0 then .error .outOfRange
    else .ok (((s.markFmc s.int0).setRes0 (wordOf (dataModules s.int0))).setRes1 (wordOf (totalCodewords s.int0))))

/-- FM_QUERY (45_function_modules.md R225): v = ARG0, x = ARG1, y = ARG2. -/
def execFmQuery (s : State) : Result :=
  done s (if !isVersion s.int0 then .error .outOfRange
    else if s.int1 ≥ sideLen s.int0 ∨ s.int2 ≥ sideLen s.int0 then .error .outOfRange
    else .ok ((s.markFmc s.int0).setRes0 (zextBit (isFunction s.int0 s.int1 s.int2))))

/-- FM_ROWCNT (45_function_modules.md R226): v = ARG0, y = ARG1. -/
def execFmRowcnt (s : State) : Result :=
  done s (if !isVersion s.int0 then .error .outOfRange
    else if s.int1 ≥ sideLen s.int0 then .error .outOfRange
    else .ok ((s.markFmc s.int0).setRes0 (wordOf (rowRanges s.int0 s.int1).length)))

/-- FM_ROWRANGE (45_function_modules.md R227): v = ARG0, y = ARG1, k = ARG2. -/
def execFmRowrange (s : State) : Result :=
  done s (if !isVersion s.int0 then .error .outOfRange
    else if s.int1 ≥ sideLen s.int0 then .error .outOfRange
    else match (rowRanges s.int0 s.int1)[s.int2]? with
      | none => .error .outOfRange
      | some r => .ok (((s.markFmc s.int0).setRes0 (wordOf r.1)).setRes1 (wordOf r.2)))

end Sys2Proof.Machine
end

