-- ==== Sys2Proof/Machine/Placer.lean ====
section
/-! DEFINITION. The module matrix and the zig-zag placer (46_placer.md). -/

namespace Sys2Proof.Machine

/-- The data cells of one column pair with right column x, in visiting order: bottom to top when `up`, else top to
bottom, the right cell of the pair before the left (46_placer.md R243, 90_conflicts.md C3; log 12). -/
def pairCells (v x : Nat) (up : Bool) : List (Nat × Nat) :=
  (List.range (sideLen v)).flatMap (fun step =>
    let y := if up then sideLen v - 1 - step else step
    [(x, y), (x - 1, y)].filter (fun c => !isFunction v c.1 c.2))

/-- The column pairs from right column x on, the vertical timing column skipped, directions alternating; the first
argument bounds the number of pairs (46_placer.md R243). -/
def zigzagFrom (v : Nat) : Nat → Nat → Bool → List (Nat × Nat)
  | 0, _, _ => []
  | n + 1, x, up =>
    if x = 0 then []
    else
      let x' := if x = 6 then 5 else x
      pairCells v x' up ++ zigzagFrom v n (x' - 2) (!up)

/-- ZZ(v), the placement order (46_placer.md R243). -/
def zigzag (v : Nat) : List (Nat × Nat) :=
  zigzagFrom v (sideLen v) (sideLen v - 1) true

/-- Write the cells of a list with the bits of another, in order (46_placer.md R244). -/
def placeBits : Memory → List (Nat × Nat) → List Bool → Memory
  | m, c :: cs, v :: vs => placeBits (m.writeBit (cellIndex c.1 c.2) v) cs vs
  | m, _, _ => m

/-- MAT_INIT (46_placer.md R240): v = ARG0. -/
def execMatInit (s : State) : Result :=
  done s (if !isVersion s.int0 then .error .outOfRange
    else .ok (s.setMatrix s.int0 []))

/-- MAT_READ (46_placer.md R241): x = ARG0, y = ARG1. -/
def execMatRead (s : State) : Result :=
  done s (if s.mv = 0 then .error .invalidArgument
    else if s.int0 ≥ sideLen s.mv ∨ s.int1 ≥ sideLen s.mv then .error .outOfRange
    else .ok (s.setRes0 (zextBit (s.cell s.int0 s.int1))))

/-- MAT_WRITE (46_placer.md R242): x = ARG0, y = ARG1, c = ARG2[0]. -/
def execMatWrite (s : State) : Result :=
  done s (if s.mv = 0 then .error .invalidArgument
    else if s.int0 ≥ sideLen s.mv ∨ s.int1 ≥ sideLen s.mv then .error .outOfRange
    else .ok (s.setMatrix s.mv (s.mat.writeBit (cellIndex s.int0 s.int1) s.bit2)))

/-- The checks and writes of PLACE (46_placer.md R244). -/
def placeEffect (b : BSel) (s : State) : Effect :=
  if s.mv = 0 then .error .invalidArgument
  else if (s.buf b).count ≠ 8 * totalCodewords s.mv then .error .invalidArgument
  else
    let n := 8 * totalCodewords s.mv
    .ok ((((s.setMatrix s.mv (placeBits s.mat (zigzag s.mv) ((s.buf b).bits.readBits 0 n))).markFmc s.mv).setRes0
      (wordOf n)).setRes1 (wordOf (dataModules s.mv - n)))

/-- PLACE (46_placer.md R244). -/
def execPlace (b : BSel) (s : State) : Result :=
  done s (placeEffect b s)

end Sys2Proof.Machine
end

