-- ==== Sys2Proof/Machine/GfScalar.lean ====
section
/-! DEFINITION. The field GF(2^8) with primitive polynomial 0x11D, its tables, and the scalar commands
(42_gf_scalar.md). -/

namespace Sys2Proof.Machine

/-- An entry of a table written in rows of 16 (42_gf_scalar.md R141, R142: row r and column c give entry 16r + c). -/
def rowEntry {α : Type} (rows : List (List α)) (i : Nat) (d : α) : α :=
  (rows.getD (i / 16) []).getD (i % 16) d

/-- EXP[0..127], rows 0 to 7 of 42_gf_scalar.md R141. -/
def expRowsLow : List (List Byte) :=
  [ [0x01#8, 0x02#8, 0x04#8, 0x08#8, 0x10#8, 0x20#8, 0x40#8, 0x80#8, 0x1D#8, 0x3A#8, 0x74#8, 0xE8#8, 0xCD#8, 0x87#8, 0x13#8, 0x26#8]
  , [0x4C#8, 0x98#8, 0x2D#8, 0x5A#8, 0xB4#8, 0x75#8, 0xEA#8, 0xC9#8, 0x8F#8, 0x03#8, 0x06#8, 0x0C#8, 0x18#8, 0x30#8, 0x60#8, 0xC0#8]
  , [0x9D#8, 0x27#8, 0x4E#8, 0x9C#8, 0x25#8, 0x4A#8, 0x94#8, 0x35#8, 0x6A#8, 0xD4#8, 0xB5#8, 0x77#8, 0xEE#8, 0xC1#8, 0x9F#8, 0x23#8]
  , [0x46#8, 0x8C#8, 0x05#8, 0x0A#8, 0x14#8, 0x28#8, 0x50#8, 0xA0#8, 0x5D#8, 0xBA#8, 0x69#8, 0xD2#8, 0xB9#8, 0x6F#8, 0xDE#8, 0xA1#8]
  , [0x5F#8, 0xBE#8, 0x61#8, 0xC2#8, 0x99#8, 0x2F#8, 0x5E#8, 0xBC#8, 0x65#8, 0xCA#8, 0x89#8, 0x0F#8, 0x1E#8, 0x3C#8, 0x78#8, 0xF0#8]
  , [0xFD#8, 0xE7#8, 0xD3#8, 0xBB#8, 0x6B#8, 0xD6#8, 0xB1#8, 0x7F#8, 0xFE#8, 0xE1#8, 0xDF#8, 0xA3#8, 0x5B#8, 0xB6#8, 0x71#8, 0xE2#8]
  , [0xD9#8, 0xAF#8, 0x43#8, 0x86#8, 0x11#8, 0x22#8, 0x44#8, 0x88#8, 0x0D#8, 0x1A#8, 0x34#8, 0x68#8, 0xD0#8, 0xBD#8, 0x67#8, 0xCE#8]
  , [0x81#8, 0x1F#8, 0x3E#8, 0x7C#8, 0xF8#8, 0xED#8, 0xC7#8, 0x93#8, 0x3B#8, 0x76#8, 0xEC#8, 0xC5#8, 0x97#8, 0x33#8, 0x66#8, 0xCC#8] ]

/-- EXP[128..255], rows 8 to F of 42_gf_scalar.md R141. -/
def expRowsHigh : List (List Byte) :=
  [ [0x85#8, 0x17#8, 0x2E#8, 0x5C#8, 0xB8#8, 0x6D#8, 0xDA#8, 0xA9#8, 0x4F#8, 0x9E#8, 0x21#8, 0x42#8, 0x84#8, 0x15#8, 0x2A#8, 0x54#8]
  , [0xA8#8, 0x4D#8, 0x9A#8, 0x29#8, 0x52#8, 0xA4#8, 0x55#8, 0xAA#8, 0x49#8, 0x92#8, 0x39#8, 0x72#8, 0xE4#8, 0xD5#8, 0xB7#8, 0x73#8]
  , [0xE6#8, 0xD1#8, 0xBF#8, 0x63#8, 0xC6#8, 0x91#8, 0x3F#8, 0x7E#8, 0xFC#8, 0xE5#8, 0xD7#8, 0xB3#8, 0x7B#8, 0xF6#8, 0xF1#8, 0xFF#8]
  , [0xE3#8, 0xDB#8, 0xAB#8, 0x4B#8, 0x96#8, 0x31#8, 0x62#8, 0xC4#8, 0x95#8, 0x37#8, 0x6E#8, 0xDC#8, 0xA5#8, 0x57#8, 0xAE#8, 0x41#8]
  , [0x82#8, 0x19#8, 0x32#8, 0x64#8, 0xC8#8, 0x8D#8, 0x07#8, 0x0E#8, 0x1C#8, 0x38#8, 0x70#8, 0xE0#8, 0xDD#8, 0xA7#8, 0x53#8, 0xA6#8]
  , [0x51#8, 0xA2#8, 0x59#8, 0xB2#8, 0x79#8, 0xF2#8, 0xF9#8, 0xEF#8, 0xC3#8, 0x9B#8, 0x2B#8, 0x56#8, 0xAC#8, 0x45#8, 0x8A#8, 0x09#8]
  , [0x12#8, 0x24#8, 0x48#8, 0x90#8, 0x3D#8, 0x7A#8, 0xF4#8, 0xF5#8, 0xF7#8, 0xF3#8, 0xFB#8, 0xEB#8, 0xCB#8, 0x8B#8, 0x0B#8, 0x16#8]
  , [0x2C#8, 0x58#8, 0xB0#8, 0x7D#8, 0xFA#8, 0xE9#8, 0xCF#8, 0x83#8, 0x1B#8, 0x36#8, 0x6C#8, 0xD8#8, 0xAD#8, 0x47#8, 0x8E#8, 0x01#8] ]

/-- EXP[0..255] in rows of 16 (42_gf_scalar.md R141). -/
def expRows : List (List Byte) := expRowsLow ++ expRowsHigh

/-- EXP[i] for i in 0..510, with EXP[i] = EXP[i − 255] for 255 ≤ i ≤ 510 (42_gf_scalar.md R141). -/
def gfExp (i : Nat) : Byte :=
  if i < 256 then rowEntry expRows i 0 else rowEntry expRows (i - 255) 0

/-- LOG[1..127], rows 0 to 7 of 42_gf_scalar.md R142. The first place stands for the sentinel LOG[0], which no operation
reads. -/
def logRowsLow : List (List Nat) :=
  [ [0, 0, 1, 25, 2, 50, 26, 198, 3, 223, 51, 238, 27, 104, 199, 75]
  , [4, 100, 224, 14, 52, 141, 239, 129, 28, 193, 105, 248, 200, 8, 76, 113]
  , [5, 138, 101, 47, 225, 36, 15, 33, 53, 147, 142, 218, 240, 18, 130, 69]
  , [29, 181, 194, 125, 106, 39, 249, 185, 201, 154, 9, 120, 77, 228, 114, 166]
  , [6, 191, 139, 98, 102, 221, 48, 253, 226, 152, 37, 179, 16, 145, 34, 136]
  , [54, 208, 148, 206, 143, 150, 219, 189, 241, 210, 19, 92, 131, 56, 70, 64]
  , [30, 66, 182, 163, 195, 72, 126, 110, 107, 58, 40, 84, 250, 133, 186, 61]
  , [202, 94, 155, 159, 10, 21, 121, 43, 78, 212, 229, 172, 115, 243, 167, 87] ]

/-- LOG[128..255], rows 8 to F of 42_gf_scalar.md R142. -/
def logRowsHigh : List (List Nat) :=
  [ [7, 112, 192, 247, 140, 128, 99, 13, 103, 74, 222, 237, 49, 197, 254, 24]
  , [227, 165, 153, 119, 38, 184, 180, 124, 17, 68, 146, 217, 35, 32, 137, 46]
  , [55, 63, 209, 91, 149, 188, 207, 205, 144, 135, 151, 178, 220, 252, 190, 97]
  , [242, 86, 211, 171, 20, 42, 93, 158, 132, 60, 57, 83, 71, 109, 65, 162]
  , [31, 45, 67, 216, 183, 123, 164, 118, 196, 23, 73, 236, 127, 12, 111, 246]
  , [108, 161, 59, 82, 41, 157, 85, 170, 251, 96, 134, 177, 187, 204, 62, 90]
  , [203, 89, 95, 176, 156, 169, 160, 81, 11, 245, 22, 235, 122, 117, 44, 215]
  , [79, 174, 213, 233, 230, 231, 173, 232, 116, 214, 244, 234, 168, 80, 88, 175] ]

/-- LOG[1..255] in rows of 16 (42_gf_scalar.md R142). -/
def logRows : List (List Nat) := logRowsLow ++ logRowsHigh

/-- LOG[x] for x ≠ 0 (42_gf_scalar.md R142). -/
def gfLog (x : Byte) : Nat := rowEntry logRows x.toNat 0

/-- gf_add (42_gf_scalar.md R143). -/
def gfAdd (a b : Byte) : Byte := a ^^^ b

/-- gf_mul (42_gf_scalar.md R143). -/
def gfMul (a b : Byte) : Byte :=
  if a = 0 ∨ b = 0 then 0 else gfExp (gfLog a + gfLog b)

/-- gf_div (42_gf_scalar.md R143); callers check b ≠ 0 first. -/
def gfDiv (a b : Byte) : Byte :=
  if a = 0 then 0 else gfExp (gfLog a + 255 - gfLog b)

/-- gf_pow (42_gf_scalar.md R143, 92 D32). -/
def gfPow (a : Byte) (n : Nat) : Byte :=
  if a = 0 then (if n = 0 then 1 else 0) else gfExp (gfLog a * n % 255)

/-- GF_ADD (42_gf_scalar.md R144). -/
def execGfAdd (s : State) : Result :=
  done s (.ok (s.setRes0 (zextByte (gfAdd s.elem0 s.elem1))))

/-- GF_MUL (42_gf_scalar.md R145). -/
def execGfMul (s : State) : Result :=
  done s (.ok (s.setRes0 (zextByte (gfMul s.elem0 s.elem1))))

/-- GF_DIV (42_gf_scalar.md R146). -/
def execGfDiv (s : State) : Result :=
  done s (if s.elem1 = 0 then .error .divideByZero
    else .ok (s.setRes0 (zextByte (gfDiv s.elem0 s.elem1))))

/-- GF_POW (42_gf_scalar.md R147): the exponent is all of ARG1. -/
def execGfPow (s : State) : Result :=
  done s (.ok (s.setRes0 (zextByte (gfPow s.elem0 s.int1))))

/-- GF_EXP (42_gf_scalar.md R148): i = ARG0. -/
def execGfExp (s : State) : Result :=
  done s (if s.int0 > 510 then .error .outOfRange
    else .ok (s.setRes0 (zextByte (gfExp s.int0))))

/-- GF_LOG (42_gf_scalar.md R149): x = ARG0[7:0]. -/
def execGfLog (s : State) : Result :=
  done s (if s.elem0 = 0 then .error .outOfRange
    else .ok (s.setRes0 (wordOf (gfLog s.elem0))))

end Sys2Proof.Machine
end

