-- ==== Sys2Proof/Machine/GfPoly.lean ====
section
/-! DEFINITION. Polynomials over GF(2^8), highest power first (00_scope.md R8), the generator ROM, and the polynomial
commands (43_gf_poly.md). -/

namespace Sys2Proof.Machine

/-! ### Polynomial arithmetic on coefficient sequences -/

/-- Coefficient i of a sequence of length L aligned at the lowest-order end of `len` places (43_gf_poly.md R165). -/
def alignedCoef (p : List Byte) (len i : Nat) : Byte :=
  if i ≥ len - p.length then p.getD (i - (len - p.length)) 0 else 0

/-- Polynomial addition aligned at the lowest-order end; leading zeros are kept (43_gf_poly.md R165). -/
def polyAdd (p q : List Byte) : List Byte :=
  let len := max p.length q.length
  (List.range len).map (fun i => alignedCoef p len i ^^^ alignedCoef q len i)

/-- The exclusive OR of a sequence of bytes. -/
def xorAll : List Byte → Byte
  | [] => 0
  | b :: bs => b ^^^ xorAll bs

/-- Coefficient k of a product: the XOR over i + j = k of gf_mul(p[i], q[j]) (43_gf_poly.md R166). -/
def convCoef (p q : List Byte) (k : Nat) : Byte :=
  xorAll ((List.range p.length).map (fun i =>
    if i ≤ k ∧ k - i < q.length then gfMul (p.getD i 0) (q.getD (k - i) 0) else 0))

/-- Polynomial multiplication; an empty operand gives an empty product (43_gf_poly.md R166). -/
def polyMul (p q : List Byte) : List Byte :=
  if p.length = 0 ∨ q.length = 0 then []
  else (List.range (p.length + q.length - 1)).map (convCoef p q)

/-- Subtract c times the divisor's coefficients after its first from the coefficients after the current one
(43_gf_poly.md R167: r[i + j] ^ gf_mul(PB[j], c) for j in 1..LB−1). -/
def subScaled (c : Byte) : List Byte → List Byte → List Byte
  | r :: rs, b :: bs => (r ^^^ gfMul b c) :: subScaled c rs bs
  | rs, [] => rs
  | [], _ :: _ => []

/-- `n` positions of synthetic division: each keeps its coefficient c, and where c ≠ 0 the divisor's tail scaled by c is
subtracted after it (43_gf_poly.md R167). -/
def divSteps (tail : List Byte) : Nat → List Byte → List Byte
  | 0, r => r
  | _ + 1, [] => []
  | n + 1, c :: r => c :: divSteps tail n (if c ≠ 0 then subScaled c r tail else r)

/-- Synthetic division: the quotient's coefficients and then the remainder's (43_gf_poly.md R167). The divisor's first
coefficient is never read. -/
def polyDiv (dividend divisor : List Byte) : List Byte :=
  divSteps divisor.tail dividend.length (dividend ++ List.replicate (divisor.length - 1) 0)

/-! ### The generator ROM -/

/-- G_n for n = 7 to 18, highest power first (43_gf_poly.md R170). -/
def generatorsLow : List (Nat × List Byte) :=
  [ (7,
        [0x01#8, 0x7F#8, 0x7A#8, 0x9A#8, 0xA4#8, 0x0B#8, 0x44#8, 0x75#8])
  , (10,
        [0x01#8, 0xD8#8, 0xC2#8, 0x9F#8, 0x6F#8, 0xC7#8, 0x5E#8, 0x5F#8, 0x71#8, 0x9D#8, 0xC1#8])
  , (13,
        [0x01#8, 0x89#8, 0x49#8, 0xE3#8, 0x11#8, 0xB1#8, 0x11#8, 0x34#8, 0x0D#8, 0x2E#8, 0x2B#8, 0x53#8, 0x84#8,
         0x78#8])
  , (15,
        [0x01#8, 0x1D#8, 0xC4#8, 0x6F#8, 0xA3#8, 0x70#8, 0x4A#8, 0x0A#8, 0x69#8, 0x69#8, 0x8B#8, 0x84#8, 0x97#8,
         0x20#8, 0x86#8, 0x1A#8])
  , (16,
        [0x01#8, 0x3B#8, 0x0D#8, 0x68#8, 0xBD#8, 0x44#8, 0xD1#8, 0x1E#8, 0x08#8, 0xA3#8, 0x41#8, 0x29#8, 0xE5#8,
         0x62#8, 0x32#8, 0x24#8, 0x3B#8])
  , (17,
        [0x01#8, 0x77#8, 0x42#8, 0x53#8, 0x78#8, 0x77#8, 0x16#8, 0xC5#8, 0x53#8, 0xF9#8, 0x29#8, 0x8F#8, 0x86#8,
         0x55#8, 0x35#8, 0x7D#8, 0x63#8, 0x4F#8])
  , (18,
        [0x01#8, 0xEF#8, 0xFB#8, 0xB7#8, 0x71#8, 0x95#8, 0xAF#8, 0xC7#8, 0xD7#8, 0xF0#8, 0xDC#8, 0x49#8, 0x52#8,
         0xAD#8, 0x4B#8, 0x20#8, 0x43#8, 0xD9#8, 0x92#8]) ]

/-- G_n for n = 20 to 30, highest power first (43_gf_poly.md R170). -/
def generatorsHigh : List (Nat × List Byte) :=
  [ (20,
        [0x01#8, 0x98#8, 0xB9#8, 0xF0#8, 0x05#8, 0x6F#8, 0x63#8, 0x06#8, 0xDC#8, 0x70#8, 0x96#8, 0x45#8, 0x24#8,
         0xBB#8, 0x16#8, 0xE4#8, 0xC6#8, 0x79#8, 0x79#8, 0xA5#8, 0xAE#8])
  , (22,
        [0x01#8, 0x59#8, 0xB3#8, 0x83#8, 0xB0#8, 0xB6#8, 0xF4#8, 0x13#8, 0xBD#8, 0x45#8, 0x28#8, 0x1C#8, 0x89#8,
         0x1D#8, 0x7B#8, 0x43#8, 0xFD#8, 0x56#8, 0xDA#8, 0xE6#8, 0x1A#8, 0x91#8, 0xF5#8])
  , (24,
        [0x01#8, 0x7A#8, 0x76#8, 0xA9#8, 0x46#8, 0xB2#8, 0xED#8, 0xD8#8, 0x66#8, 0x73#8, 0x96#8, 0xE5#8, 0x49#8,
         0x82#8, 0x48#8, 0x3D#8, 0x2B#8, 0xCE#8, 0x01#8, 0xED#8, 0xF7#8, 0x7F#8, 0xD9#8, 0x90#8, 0x75#8])
  , (26,
        [0x01#8, 0xF6#8, 0x33#8, 0xB7#8, 0x04#8, 0x88#8, 0x62#8, 0xC7#8, 0x98#8, 0x4D#8, 0x38#8, 0xCE#8, 0x18#8,
         0x91#8, 0x28#8, 0xD1#8, 0x75#8, 0xE9#8, 0x2A#8, 0x87#8, 0x44#8, 0x46#8, 0x90#8, 0x92#8, 0x4D#8, 0x2B#8,
         0x5E#8])
  , (28,
        [0x01#8, 0xFC#8, 0x09#8, 0x1C#8, 0x0D#8, 0x12#8, 0xFB#8, 0xD0#8, 0x96#8, 0x67#8, 0xAE#8, 0x64#8, 0x29#8,
         0xA7#8, 0x0C#8, 0xF7#8, 0x38#8, 0x75#8, 0x77#8, 0xE9#8, 0x7F#8, 0xB5#8, 0x64#8, 0x79#8, 0x93#8, 0xB0#8,
         0x4A#8, 0x3A#8, 0xC5#8])
  , (30,
        [0x01#8, 0xD4#8, 0xF6#8, 0x4D#8, 0x49#8, 0xC3#8, 0xC0#8, 0x4B#8, 0x62#8, 0x05#8, 0x46#8, 0x67#8, 0xB1#8,
         0x16#8, 0xD9#8, 0x8A#8, 0x33#8, 0xB5#8, 0xF6#8, 0x48#8, 0x19#8, 0x12#8, 0x2E#8, 0xE4#8, 0x4A#8, 0xD8#8,
         0xC3#8, 0x0B#8, 0x6A#8, 0x82#8, 0x96#8]) ]

/-- The generator ROM (10_state.md R42, 43_gf_poly.md R170). -/
def generatorRom : List (Nat × List Byte) := generatorsLow ++ generatorsHigh

/-- The coefficients of G_n, for the 13 supported counts only (43_gf_poly.md R168, R170). -/
def generator (n : Nat) : Option (List Byte) := generatorRom.lookup n

/-! ### Selectors and coefficient memories -/

/-- The memories a selector names (43_gf_poly.md R160). -/
inductive PolySel where
  | pa
  | pb
  | pr
deriving DecidableEq, Repr

/-- Selector values of PL_READ and PL_GETLEN: 0 names PA, 1 PB, 2 PR (43_gf_poly.md R160). -/
def polySel (sel : Nat) : Option PolySel :=
  if sel = 0 then some .pa else if sel = 1 then some .pb else if sel = 2 then some .pr else none

/-- Selector values of PL_SETLEN and PL_WRITE: only PA and PB (43_gf_poly.md R160). -/
def operandSel (sel : Nat) : Option PolySel :=
  if sel = 0 then some .pa else if sel = 1 then some .pb else none

/-- The memory and length a selector names. -/
def State.poly (s : State) : PolySel → Poly
  | .pa => s.pa
  | .pb => s.pb
  | .pr => s.pr

/-- Replace the memory and length a selector names. -/
def State.setPoly (s : State) (p : PolySel) (x : Poly) : State :=
  match p with
  | .pa => s.setPa x
  | .pb => s.setPb x
  | .pr => s.setPr x

/-- The coefficients P[0 .. L−1]. -/
def Poly.coeffs (p : Poly) : List Byte := p.coef.readBytes 0 p.len

/-- Load coefficients at 0 on and set the length to theirs; coefficients beyond them keep their values. -/
def Poly.load (p : Poly) (cs : List Byte) : Poly :=
  { len := cs.length, coef := p.coef.writeBytes 0 cs }

/-! ### Commands -/

/-- PL_SETLEN (43_gf_poly.md R161): sel = ARG0, len = ARG1. -/
def execPlSetlen (s : State) : Result :=
  done s (match operandSel s.int0 with
    | none => .error .invalidArgument
    | some p =>
      if s.int1 > 256 then .error .outOfRange
      else .ok (s.setPoly p { s.poly p with len := s.int1 }))

/-- PL_WRITE (43_gf_poly.md R162): sel = ARG0, idx = ARG1, coef = ARG2[7:0]. -/
def execPlWrite (s : State) : Result :=
  done s (match operandSel s.int0 with
    | none => .error .invalidArgument
    | some p =>
      if s.int1 ≥ 256 then .error .outOfRange
      else .ok (s.setPoly p { s.poly p with coef := (s.poly p).coef.write s.int1 s.elem2 }))

/-- PL_READ (43_gf_poly.md R163): sel = ARG0, idx = ARG1. -/
def execPlRead (s : State) : Result :=
  done s (match polySel s.int0 with
    | none => .error .invalidArgument
    | some p =>
      if s.int1 ≥ (s.poly p).len then .error .outOfRange
      else .ok (s.setRes0 (zextByte ((s.poly p).coef.read s.int1))))

/-- PL_GETLEN (43_gf_poly.md R164): sel = ARG0. -/
def execPlGetlen (s : State) : Result :=
  done s (match polySel s.int0 with
    | none => .error .invalidArgument
    | some p => .ok (s.setRes0 (wordOf (s.poly p).len)))

/-- PL_ADD (43_gf_poly.md R165). -/
def execPlAdd (s : State) : Result :=
  done s (.ok (s.setPr (s.pr.load (polyAdd s.pa.coeffs s.pb.coeffs))))

/-- PL_MUL (43_gf_poly.md R166). -/
def execPlMul (s : State) : Result :=
  done s (.ok (s.setPr (s.pr.load (polyMul s.pa.coeffs s.pb.coeffs))))

/-- PL_DIV (43_gf_poly.md R167). -/
def execPlDiv (s : State) : Result :=
  done s (if s.pb.len = 0 then .error .invalidArgument
    else .ok (((s.setPr (s.pr.load (polyDiv s.pa.coeffs s.pb.coeffs))).setRes0 (wordOf s.pa.len)).setRes1
      (wordOf (s.pb.len - 1))))

/-- PL_GEN (43_gf_poly.md R168): n = ARG0. -/
def execPlGen (s : State) : Result :=
  done s (match generator s.int0 with
    | none => .error .notSupported
    | some g => .ok (s.setPb (s.pb.load g)))

/-- PL_MOVRA (43_gf_poly.md R169). -/
def execPlMovra (s : State) : Result :=
  done s (if s.pr.len > 256 then .error .outOfRange
    else .ok (s.setPa (s.pa.load s.pr.coeffs)))

end Sys2Proof.Machine
end

