-- ==== Sys2Proof/Machine/RsEncoder.lean ====
section
/-! DEFINITION. The Reed-Solomon block encoder and interleaver (44_rs_encoder.md). -/

namespace Sys2Proof.Machine

/-- The lengths of the blocks in descriptor order: c1 blocks of d1 codewords, then c2 of d2 (44_rs_encoder.md R192). -/
def blockLengths (c1 d1 c2 d2 : Nat) : List Nat :=
  List.replicate c1 d1 ++ List.replicate c2 d2

/-- Cut a codeword stream front to back into blocks of the given lengths (44_rs_encoder.md R192). -/
def splitBlocks : List Nat → List Byte → List (List Byte)
  | [], _ => []
  | l :: ls, cs => cs.take l :: splitBlocks ls (cs.drop l)

/-- The error-correction codewords of one block: the remainder of its division by G_ec (44_rs_encoder.md R193). -/
def blockEc (g block : List Byte) : List Byte :=
  (polyDiv block g).drop block.length

/-- Column-wise interleave of `n` columns: position i of every block that has one, for i = 0 .. n − 1
(44_rs_encoder.md R194). -/
def columns (n : Nat) (blocks : List (List Byte)) : List Byte :=
  (List.range n).flatMap (fun i => blocks.filterMap (fun b => b[i]?))

/-- The length of the longest block. -/
def maxLength (blocks : List (List Byte)) : Nat :=
  blocks.foldl (fun n b => max n b.length) 0

/-- The output: all data codewords column-wise, then all error codewords column-wise (44_rs_encoder.md R194). -/
def interleave (ec : Nat) (g : List Byte) (blocks : List (List Byte)) : List Byte :=
  columns (maxLength blocks) blocks ++ columns ec (blocks.map (blockEc g))

/-- The data codewords byte(b, 0) .. byte(b, D − 1) (44_rs_encoder.md R192). -/
def BitBuffer.codewords (x : BitBuffer) (n : Nat) : List Byte :=
  (List.range n).map x.byteAt

/-- The destination buffer: cleared, then filled with the output's bytes (44_rs_encoder.md R195). -/
def BitBuffer.ofBytes (out : List Byte) : BitBuffer :=
  { count := 8 * out.length, bits := Memory.writeBytes [] 0 out }

/-- The checks and writes of RS_ENCODE once ec is known to be supported, with generator g (44_rs_encoder.md R191 from
its second check on, R192 to R195). -/
def rsEncodeWith (g : List Byte) (b : BSel) (s : State) : Effect :=
  let ec := s.int0
  let c1 := groupCount s.latch.a1
  let d1 := groupData s.latch.a1
  let c2 := groupCount s.latch.a2
  let d2 := groupData s.latch.a2
  if groupRsv s.latch.a1 ≠ 0 ∨ groupRsv s.latch.a2 ≠ 0 then .error .invalidArgument
  else if (c1 > 0 ∧ d1 = 0) ∨ (c2 > 0 ∧ d2 = 0) then .error .invalidArgument
  else if c1 + c2 = 0 then .error .invalidArgument
  else if (s.buf b).byteCount ≠ c1 * d1 + c2 * d2 then .error .invalidArgument
  else if 8 * (c1 * d1 + c2 * d2 + (c1 + c2) * ec) > s.cfg.bbCapBits then .error .capacityExceeded
  else
    let data := (s.buf b).codewords (c1 * d1 + c2 * d2)
    let out := interleave ec g (splitBlocks (blockLengths c1 d1 c2 d2) data)
    .ok (((s.setBuf b.other (BitBuffer.ofBytes out)).setRes0 (wordOf (c1 * d1 + c2 * d2 + (c1 + c2) * ec))).setRes1
      (wordOf (c1 + c2)))

/-- RS_ENCODE (44_rs_encoder.md R190 to R195): ec = ARG0, groups ARG1 and ARG2. -/
def execRsEncode (b : BSel) (s : State) : Result :=
  done s (match generator s.int0 with
    | none => .error .notSupported
    | some g => rsEncodeWith g b s)

end Sys2Proof.Machine
end

