-- ==== Sys2Proof/Machine/Dispatch.lean ====
section
/-! DEFINITION. The dispatch of a command to its meaning: one arm per row of 30_encoding.md R85. -/

namespace Sys2Proof.Machine

def exec (i : Instr) (s : State) : Host.Outcome State Fault Refusal :=
  match i with
  | .nop => Sys2Proof.Machine.execNop s
  | .bbClear b => Sys2Proof.Machine.execBbClear b s
  | .bbWrite b => Sys2Proof.Machine.execBbWrite b s
  | .bbRead b => Sys2Proof.Machine.execBbRead b s
  | .bbGetbit b => Sys2Proof.Machine.execBbGetbit b s
  | .bbSetbit b => Sys2Proof.Machine.execBbSetbit b s
  | .bbCount b => Sys2Proof.Machine.execBbCount b s
  | .bbRdbyte b => Sys2Proof.Machine.execBbRdbyte b s
  | .bbEqual => Sys2Proof.Machine.execBbEqual s
  | .gfAdd => Sys2Proof.Machine.execGfAdd s
  | .gfMul => Sys2Proof.Machine.execGfMul s
  | .gfDiv => Sys2Proof.Machine.execGfDiv s
  | .gfPow => Sys2Proof.Machine.execGfPow s
  | .gfExp => Sys2Proof.Machine.execGfExp s
  | .gfLog => Sys2Proof.Machine.execGfLog s
  | .plSetlen => Sys2Proof.Machine.execPlSetlen s
  | .plWrite => Sys2Proof.Machine.execPlWrite s
  | .plRead => Sys2Proof.Machine.execPlRead s
  | .plGetlen => Sys2Proof.Machine.execPlGetlen s
  | .plAdd => Sys2Proof.Machine.execPlAdd s
  | .plMul => Sys2Proof.Machine.execPlMul s
  | .plDiv => Sys2Proof.Machine.execPlDiv s
  | .plGen => Sys2Proof.Machine.execPlGen s
  | .plMovra => Sys2Proof.Machine.execPlMovra s
  | .rsEncode b => Sys2Proof.Machine.execRsEncode b s
  | .fmLoad => Sys2Proof.Machine.execFmLoad s
  | .fmQuery => Sys2Proof.Machine.execFmQuery s
  | .fmRowcnt => Sys2Proof.Machine.execFmRowcnt s
  | .fmRowrange => Sys2Proof.Machine.execFmRowrange s
  | .matInit => Sys2Proof.Machine.execMatInit s
  | .matRead => Sys2Proof.Machine.execMatRead s
  | .matWrite => Sys2Proof.Machine.execMatWrite s
  | .place b => Sys2Proof.Machine.execPlace b s

end Sys2Proof.Machine
end

