-- ==== Sys2Proof/Machine/HostPort.lean ====
section
/-! DEFINITION. The host register window: the layout of 10_state.md R21, host writes and reads (20_memory.md R60 to
R63), command acceptance (R62), and the platform's reset (70_reset_and_hazards.md R290, R291). -/

namespace Sys2Proof.Machine

/-- The sixteen registers of the window (10_state.md R21). -/
inductive WindowReg where
  | cmd
  | arg0
  | arg1
  | arg2
  | res0
  | res1
  | status
  | id
  | bb0Count
  | bb1Count
  | bbCap
  | fmcValid0
  | fmcValid1
  | matVer
  | reserved38
  | reserved3C
deriving DecidableEq, Repr

/-- The registers in offset order, 0x00 to 0x3C (10_state.md R21). -/
def windowRegs : List WindowReg :=
  [ .cmd, .arg0, .arg1, .arg2, .res0, .res1, .status, .id
  , .bb0Count, .bb1Count, .bbCap, .fmcValid0, .fmcValid1, .matVer, .reserved38, .reserved3C ]

/-- The register at a byte offset, taken modulo 64 (10_state.md R21, 20_memory.md R60). -/
def regAt (off : Nat) : WindowReg :=
  windowRegs.getD (off % 64 / 4) .reserved3C

/-- The bus address of a window offset (20_memory.md R60). No rule depends on it (00_scope.md R3). -/
def busAddress (c : Config) (off : Nat) : Nat :=
  c.qseBase + off % 64

/-- A register's four bytes in bus lane order (20_memory.md R65). No rule depends on it (00_scope.md R3). -/
def laneBytes (c : Config) (w : Word) : List Byte :=
  let le := [w.extractLsb' 0 8, w.extractLsb' 8 8, w.extractLsb' 16 8, w.extractLsb' 24 8]
  match c.busByteOrder with
  | .little => le
  | .big    => le.reverse

/-- The constant of the ID register (10_state.md R30). -/
def idValue : Word := 0x51534501#32

/-- A host write to CMD (20_memory.md R62): accepted when BUSY = 0, otherwise dropped with OVERRUN set. -/
def offerCommand (s : State) (w : Word) : State :=
  if s.busy then { s with overrun := true }
  else { s with latch := { cmd := w, a0 := s.arg0, a1 := s.arg1, a2 := s.arg2 }, busy := true }

/-- A defined host write to a register of the window (10_state.md R22 to R36). -/
def writeReg (s : State) (r : WindowReg) (v : Word) : State :=
  match r with
  | .cmd        => offerCommand s v
  | .arg0       => { s with arg0 := v }
  | .arg1       => { s with arg1 := v }
  | .arg2       => { s with arg2 := v }
  | .status     => { s with overrun := overrunAfterWrite s.overrun v }
  | .res0       => s
  | .res1       => s
  | .id         => s
  | .bb0Count   => s
  | .bb1Count   => s
  | .bbCap      => s
  | .fmcValid0  => s
  | .fmcValid1  => s
  | .matVer     => s
  | .reserved38 => s
  | .reserved3C => s

/-- A host write: of another width or alignment it is ignored (20_memory.md R61). -/
def hostWrite (s : State) (width off : Nat) (v : Word) : State :=
  if accessDefined width off then writeReg s (regAt off) v else s

/-- The registers whose value is unspecified while BUSY = 1 (70_reset_and_hazards.md R294). -/
def isMirror : WindowReg → Bool
  | .bb0Count   => true
  | .bb1Count   => true
  | .fmcValid0  => true
  | .fmcValid1  => true
  | .matVer     => true
  | .cmd        => false
  | .arg0       => false
  | .arg1       => false
  | .arg2       => false
  | .res0       => false
  | .res1       => false
  | .status     => false
  | .id         => false
  | .bbCap      => false
  | .reserved38 => false
  | .reserved3C => false

/-- What a register reads when it is not a mirror read while BUSY = 1 (10_state.md R22 to R36). -/
def regValue (s : State) : WindowReg → Word
  | .cmd        => 0
  | .arg0       => s.arg0
  | .arg1       => s.arg1
  | .arg2       => s.arg2
  | .res0       => s.res0
  | .res1       => s.res1
  | .status     => s.statusWord
  | .id         => idValue
  | .bb0Count   => wordOf s.b0.count
  | .bb1Count   => wordOf s.b1.count
  | .bbCap      => wordOf s.cfg.bbCapBits
  | .fmcValid0  => s.fmc.extractLsb' 0 32
  | .fmcValid1  => (s.fmc.extractLsb' 32 8).setWidth 32
  | .matVer     => wordOf s.mv
  | .reserved38 => 0
  | .reserved3C => 0

/-- A mirror read while BUSY = 1 draws an unspecified value (70_reset_and_hazards.md R294). -/
def drawsValue (s : State) (r : WindowReg) : Bool :=
  s.busy && isMirror r

/-- The value a defined host read returns (10_state.md R21, 70_reset_and_hazards.md R294; log 6). -/
def readReg (s : State) (r : WindowReg) : Word :=
  if drawsValue s r then Config.mirrorWhileBusy s.draws else regValue s r

/-- A host read: the value it returns is left in `readData` (log 5). Of another width or alignment it returns 0
(20_memory.md R61). No register changes (R63). -/
def hostRead (s : State) (width off : Nat) : State :=
  if accessDefined width off then
    { s with readData := readReg s (regAt off)
             draws := if drawsValue s (regAt off) then s.draws + 1 else s.draws }
  else { s with readData := 0 }

/-- The platform's reset (70_reset_and_hazards.md R290, R291): every piece of QSE's state takes its reset value,
whatever was running. The configuration and the model's own fields stay (log 14). -/
def platformReset (s : State) : State :=
  { State.resetWith s.cfg with events := s.events, readData := s.readData, draws := s.draws }

end Sys2Proof.Machine
end

