-- ==== Sys2Proof/Machine/Engine.lean ====
section
/-! DEFINITION. The engine's step (20_memory.md R64) and what one event of the outside does. -/

namespace Sys2Proof.Machine

/-- The engine's step (20_memory.md R64): with a command pending, decode the latched word and execute it, or complete
an illegal word (30_encoding.md R86); otherwise the engine is idle (70_reset_and_hazards.md R290; log 4). -/
def engineTurn (s : State) : Result :=
  if s.busy then
    match decode s.latch.cmd with
    | .ok i    => exec i s
    | .error _ => illegalCommand s
  else .next s

/-- What one event does (log 3). -/
def perform (e : Event) (s : State) : Result :=
  match e with
  | .hostWrite width off v => .next (hostWrite s width off v)
  | .hostRead width off    => .next (hostRead s width off)
  | .platformReset         => .next (platformReset s)
  | .engineTurn            => engineTurn s

/-- An engine turn put before the events that wait, so that the engine goes next. -/
def engineFirst (es : List Event) : List Event :=
  match es with
  | [] => []
  | e :: rest => .engineTurn :: e :: rest

/-- A state with a command word accepted (20_memory.md R62): latched with the present ARG values, BUSY set, and the
engine's turn next. -/
def acceptWord (s : State) (w : Word) : State :=
  { s with latch := { cmd := w, a0 := s.arg0, a1 := s.arg1, a2 := s.arg2 }
           busy := true
           events := engineFirst s.events }

end Sys2Proof.Machine
end

