-- ==== Sys2Proof/Machine/Step.lean ====
section
/-! DEFINITION. One step of the machine. -/

namespace Sys2Proof.Machine

/-- One step: the next event of the outside, or, when none waits, the engine's turn (log 3, 4). -/
def step (s : State) : Host.Outcome State Fault Refusal :=
  match s.events with
  | []        => engineTurn s
  | e :: rest => perform e { s with events := rest }

/-- `s` with a command word of `nbits` bits accepted, so that the very next step executes it (log 10). QSE fetches no
instructions (20_memory.md R72): a command is the value of one accepted CMD write. -/
def State.withFetchWord (s : State) (nbits w : Nat) : State :=
  acceptWord s (BitVec.ofNat 32 (w % 2 ^ nbits))

end Sys2Proof.Machine
end

