-- ==== Sys2Proof/Machine/HostMacro.lean ====
section
/-! DEFINITION. The host's assembler lines and pseudo-instructions (30_encoding.md R90 to R92), as the events they stand
for. They run on the machine by `step`; nothing of the machine depends on them. -/

namespace Sys2Proof.Machine

/-- Write an argument register only if the argument is written (30_encoding.md R90). -/
def argWrite (off : Nat) : Option Word → List Event
  | none   => []
  | some v => [.hostWrite 32 off v]

/-- `WAIT` (30_encoding.md R91): repeat a read of STATUS until it shows BUSY = 0. `polls` of them come before the
engine's step, one after it (log 19). -/
def waitEvents (polls : Nat) : List Event :=
  List.replicate polls (.hostRead 32 0x18) ++ [.engineTurn, .hostRead 32 0x18]

/-- The host writes of a line, without its WAIT (30_encoding.md R90). -/
def issueEvents (l : AsmLine) : List Event :=
  argWrite 0x04 l.arg0 ++ argWrite 0x08 l.arg1 ++ argWrite 0x0C l.arg2 ++ [.hostWrite 32 0x00 (encode l.instr)]

/-- The host sequence an assembler line denotes (30_encoding.md R90). -/
def lineEvents (l : AsmLine) (polls : Nat) : List Event :=
  issueEvents l ++ waitEvents polls

/-- Perform events one after the other. -/
def performAll : List Event → State → Result
  | [], s => .next s
  | e :: es, s =>
    match perform e s with
    | .next t    => performAll es t
    | .fault r   => .fault r
    | .refused r => .refused r

/-- Continue after a result. -/
def andThen (r : Result) (k : State → Result) : Result :=
  match r with
  | .next t    => k t
  | .fault f   => .fault f
  | .refused f => .refused f

/-- `RD r` (30_encoding.md R92): a read of a named register. -/
def rd (off : Nat) (s : State) : Result :=
  perform (.hostRead 32 off) s

/-- `BB_PUSH.bX value, n` (30_encoding.md R92): BB_COUNT, read RES0, then BB_WRITE at that position. -/
def bbPush (b : BSel) (value n : Word) (polls : Nat) (s : State) : Result :=
  andThen (performAll (lineEvents ⟨.bbCount b, none, none, none⟩ polls) s) fun t =>
  andThen (rd 0x10 t) fun u =>
  performAll (lineEvents ⟨.bbWrite b, some u.readData, some value, some n⟩ polls) u

/-- `BB_PUSHBYTES.bX c0, …, ck` (30_encoding.md R92): BB_PUSH of 8 bits for each byte in order. -/
def bbPushBytes (b : BSel) (polls : Nat) : List Byte → State → Result
  | [], s => .next s
  | c :: cs, s => andThen (bbPush b (zextByte c) 8 polls s) (bbPushBytes b polls cs)

/-- `CHECK e` (30_encoding.md R92): whether a read of STATUS shows error code e. -/
def check (e : BitVec 4) (s : State) : Bool :=
  (regValue s .status).extractLsb' 4 4 == e

end Sys2Proof.Machine
end

