-- ==== Sys2Proof/Safety.lean ====
section
/-! DEFINITION. What a good state and a safe run are, in the terms the statements use. -/

namespace Sys2Proof.Machine

/-- Every address of a store is below a bound. -/
def Memory.below (m : Memory) (n : Nat) : Prop := ∀ c ∈ m, c.1 < n

/-- A bit buffer within its capacity, in canonical form, with every bit at or beyond `count` 0 (10_state.md R38, R39). -/
structure BitBuffer.Good (cap : Nat) (x : BitBuffer) : Prop where
  count_le  : x.count ≤ cap
  canonical : x.bits.wf
  zero_tail : ∀ i, x.count ≤ i → x.bits.readBit i = false

/-- A polynomial memory of `n` coefficients, in canonical form, its length within them (10_state.md R40). -/
structure Poly.Good (n : Nat) (p : Poly) : Prop where
  len_le    : p.len ≤ n
  canonical : p.coef.wf
  inside    : p.coef.below n

/-- The module matrix: a legal version or none, a canonical store, and every cell outside N(MV) × N(MV) at 0, since no
command reaches it (10_state.md R44). With MV = 0 every cell is 0. -/
structure MatrixGood (mv : Nat) (m : Memory) : Prop where
  version_le : mv ≤ 40
  canonical  : m.wf
  outside    : ∀ x y, y < 177 → m.readBit (cellIndex x y) = true → mv ≠ 0 ∧ x < sideLen mv ∧ y < sideLen mv

/-- The invariant of QSE: what 10_state.md says every state satisfies. -/
structure State.Inv (s : State) : Prop where
  config : s.cfg.wellFormed = true
  latch  : s.busy = false → s.latch = Latch.empty
  b0     : s.b0.Good s.cfg.bbCapBits
  b1     : s.b1.Good s.cfg.bbCapBits
  pa     : s.pa.Good 256
  pb     : s.pb.Good 256
  pr     : s.pr.Good 511
  matrix : MatrixGood s.mv s.mat

/-- A step that ends in a next state: neither a fault nor a refusal. -/
def Continues (r : Result) : Prop := ∃ t, r = .next t

end Sys2Proof.Machine
end

