-- ==== Sys2Proof/Certificates/Slice0/Obligations.lean ====
section
/-! DEFINITION. The statements about the model, from the numbered rules of spec/. -/

open Sys2Proof Sys2Proof.Machine

namespace Sys2Proof.Rules

/-! ### Words the statements share, written from the spec -/

/-- What 60_exceptions.md R261 leaves of `s` when a command that writes nothing else ends with a code. -/
def ended (s : State) (code : ErrCode) : State :=
  { s with err := code, lastop := s.latch.cmd.extractLsb' 0 8, busy := false, latch := Latch.empty }

/-- The opcodes of 30_encoding.md R85. -/
def assigned : List Nat :=
  [0x00, 0x10, 0x11, 0x12, 0x13, 0x14, 0x15, 0x16, 0x17, 0x20, 0x21, 0x22, 0x23, 0x24, 0x25, 0x30, 0x31, 0x32, 0x33,
   0x34, 0x35, 0x36, 0x37, 0x38, 0x40, 0x50, 0x51, 0x52, 0x53, 0x60, 0x61, 0x62, 0x63]

/-- The opcodes marked BSEL in 30_encoding.md R85. -/
def takesBsel : List Nat := [0x10, 0x11, 0x12, 0x13, 0x14, 0x15, 0x16, 0x40, 0x63]

/-- 30_encoding.md R86: CMD[31:9] ≠ 0, or OP not in the table, or BSEL = 1 on a command that takes no BSEL. -/
def IllegalWord (w : Word) : Prop :=
  w.toNat / 512 ≠ 0 ∨ w.toNat % 256 ∉ assigned ∨ (w.toNat / 256 % 2 = 1 ∧ w.toNat % 256 ∉ takesBsel)

/-- The 13 error-correction codeword counts (43_gf_poly.md R168). -/
def supportedEc : List Nat := [7, 10, 13, 15, 16, 17, 18, 20, 22, 24, 26, 28, 30]

/-- Exclusive OR over i = 0 .. n − 1. -/
def xorSum (n : Nat) (f : Nat → Byte) : Byte :=
  (List.range n).foldr (fun i acc => f i ^^^ acc) 0

/-- The ARG registers 30_encoding.md R85 names for a command: ARG0, ARG1, ARG2. -/
def readsArgs : Instr → Bool × Bool × Bool
  | .bbWrite _ | .plWrite | .rsEncode _ | .fmQuery | .fmRowrange | .matWrite => (true, true, true)
  | .bbRead _ | .bbSetbit _ | .gfAdd | .gfMul | .gfDiv | .gfPow | .plSetlen | .plRead | .fmRowcnt | .matRead =>
    (true, true, false)
  | .bbGetbit _ | .bbRdbyte _ | .gfExp | .gfLog | .plGetlen | .plGen | .fmLoad | .matInit => (true, false, false)
  | .nop | .bbClear _ | .bbCount _ | .bbEqual | .plAdd | .plMul | .plDiv | .plMovra | .place _ => (false, false, false)

/-- The result registers 30_encoding.md R85 names for a command: RES0, RES1. -/
def writesRes : Instr → Bool × Bool
  | .bbCount _ | .plDiv | .rsEncode _ | .fmLoad | .fmRowrange | .place _ => (true, true)
  | .bbRead _ | .bbGetbit _ | .bbRdbyte _ | .bbEqual | .gfAdd | .gfMul | .gfDiv | .gfPow | .gfExp | .gfLog | .plRead
  | .plGetlen | .fmQuery | .fmRowcnt | .matRead => (true, false)
  | .nop | .bbClear _ | .bbWrite _ | .bbSetbit _ | .plSetlen | .plWrite | .plAdd | .plMul | .plGen | .plMovra
  | .matInit | .matWrite => (false, false)

/-- The buffer a command may write (10_state.md section 4): B[BSEL] for BB_CLEAR, BB_WRITE and BB_SETBIT, B[1 − BSEL]
for RS_ENCODE. -/
def writesBuf : Instr → Option BSel
  | .bbClear b | .bbWrite b | .bbSetbit b => some b
  | .rsEncode b => some b.other
  | .nop | .bbRead _ | .bbGetbit _ | .bbCount _ | .bbRdbyte _ | .bbEqual | .gfAdd | .gfMul | .gfDiv | .gfPow | .gfExp
  | .gfLog | .plSetlen | .plWrite | .plRead | .plGetlen | .plAdd | .plMul | .plDiv | .plGen | .plMovra | .fmLoad
  | .fmQuery | .fmRowcnt | .fmRowrange | .matInit | .matRead | .matWrite | .place _ => none

/-! ### The Reed-Solomon blocks and output, written from 44_rs_encoder.md R190 to R194 -/

/-- Where block k starts in the data stream. -/
def blockStart (c1 d1 d2 k : Nat) : Nat := if k < c1 then k * d1 else c1 * d1 + (k - c1) * d2

/-- The length of block k. -/
def blockLen (c1 d1 d2 k : Nat) : Nat := if k < c1 then d1 else d2

/-- The blocks Dk, k = 0 .. c1 + c2 − 1. -/
def rsBlocks (x : BitBuffer) (c1 d1 c2 d2 : Nat) : List (List Byte) :=
  (List.range (c1 + c2)).map (fun k =>
    (List.range (blockLen c1 d1 d2 k)).map (fun t => x.byteAt (blockStart c1 d1 d2 k + t)))

/-- The longest block's length. -/
def longest (blocks : List (List Byte)) : Nat := (blocks.map List.length).foldr max 0

/-- The loop of R193 over r = D ++ [0] * ec, in place: position i with c = r[i] ≠ 0 changes r[i + j] for j = 1 .. ec. -/
def eliminated (ec : Nat) (g d : List Byte) : List Byte :=
  (List.range d.length).foldl
    (fun r i =>
      if r.getD i 0 = 0 then r
      else (List.range ec).foldl
        (fun q j => q.set (i + (j + 1)) (q.getD (i + (j + 1)) 0 ^^^ gfMul (g.getD (j + 1) 0) (r.getD i 0))) r)
    (d ++ List.replicate ec 0)

/-- The ec error codewords of block d: r[L .. L + ec − 1] (R193). -/
def errorWords (ec : Nat) (g d : List Byte) : List Byte := (eliminated ec g d).drop d.length

/-- The output: data codewords column-wise, then error codewords column-wise. -/
def rsOut (ec : Nat) (g : List Byte) (blocks : List (List Byte)) : List Byte :=
  ((List.range (longest blocks)).flatMap (fun i =>
      (blocks.filter (fun d => decide (i < d.length))).map (fun d => d.getD i 0)))
    ++ ((List.range ec).flatMap (fun i => blocks.map (fun d => (errorWords ec g d).getD i 0)))

/-! ### The function modules, written from 45_function_modules.md R212 to R218 -/

/-- The table of R213: AC(1) to AC(20), and AC(21) to AC(40). -/
def centreTable : List (List Nat) :=
  [ [], [6, 18], [6, 22], [6, 26], [6, 30], [6, 34], [6, 22, 38], [6, 24, 42], [6, 26, 46], [6, 28, 50],
    [6, 30, 54], [6, 32, 58], [6, 34, 62], [6, 26, 46, 66], [6, 26, 48, 70], [6, 26, 50, 74], [6, 30, 54, 78],
    [6, 30, 56, 82], [6, 30, 58, 86], [6, 34, 62, 90] ] ++
  [ [6, 28, 50, 72, 94], [6, 26, 50, 74, 98], [6, 30, 54, 78, 102], [6, 28, 54, 80, 106], [6, 32, 58, 84, 110],
    [6, 30, 58, 86, 114], [6, 34, 62, 90, 118], [6, 26, 50, 74, 98, 122], [6, 30, 54, 78, 102, 126],
    [6, 26, 52, 78, 104, 130], [6, 30, 56, 82, 108, 134], [6, 34, 60, 86, 112, 138], [6, 30, 58, 86, 114, 142],
    [6, 34, 62, 90, 118, 146], [6, 30, 54, 78, 102, 126, 150], [6, 24, 50, 76, 102, 128, 154],
    [6, 28, 54, 80, 106, 132, 158], [6, 32, 58, 84, 110, 136, 162], [6, 26, 54, 82, 110, 138, 166],
    [6, 30, 58, 86, 114, 142, 170] ]

/-- The union of the stamps for version v. The three skipped alignment squares are named as R214 names them. -/
def Stamped (v x y : Nat) : Prop :=
  (x < 8 ∧ y < 8) ∨ (17 + 4 * v ≤ x + 8 ∧ y < 8) ∨ (x < 8 ∧ 17 + 4 * v ≤ y + 8)
  ∨ (∃ cx ∈ alignCentres v, ∃ cy ∈ alignCentres v,
      ¬ (cx = 6 ∧ cy = 6) ∧ ¬ (cx = 6 ∧ cy + 7 = 17 + 4 * v) ∧ ¬ (cx + 7 = 17 + 4 * v ∧ cy = 6)
      ∧ cx ≤ x + 2 ∧ x ≤ cx + 2 ∧ cy ≤ y + 2 ∧ y ≤ cy + 2)
  ∨ y = 6 ∨ x = 6
  ∨ (x = 8 ∧ y = 4 * v + 9)
  ∨ (x = 8 ∧ y ≤ 8) ∨ (y = 8 ∧ x ≤ 8) ∨ (y = 8 ∧ 17 + 4 * v ≤ x + 8) ∨ (x = 8 ∧ 17 + 4 * v ≤ y + 8)
  ∨ (7 ≤ v ∧ ((x ≤ 5 ∧ 17 + 4 * v ≤ y + 11 ∧ y + 9 ≤ 17 + 4 * v)
      ∨ (17 + 4 * v ≤ x + 11 ∧ x + 9 ≤ 17 + 4 * v ∧ y ≤ 5)))

/-- Multiplication of field elements as polynomials over GF(2) reduced by x^8 + x^4 + x^3 + x^2 + 1
(42_gf_scalar.md R140): a times x. -/
def timesX (a : Byte) : Byte := (a <<< 1) ^^^ (if a.getLsbD 7 then 0x1D#8 else 0#8)

/-- a times x^j. -/
def timesXPow (a : Byte) : Nat → Byte
  | 0 => a
  | j + 1 => timesX (timesXPow a j)

/-- a times b: the sum of a·x^j over the set bits j of b. -/
def fieldProduct (a b : Byte) : Byte := xorSum 8 (fun j => if b.getLsbD j then timesXPow a j else 0)

end Sys2Proof.Rules

open Sys2Proof.Rules

/-! ### Encoding and dispatch -/

/-- 30_encoding.md R80, R85: the word of every command decodes to it. -/
def Obligations.EncodeThenDecode : Prop := ∀ i : Instr, decode (encode i) = .ok i

/-- 30_encoding.md R85, R88: a word decodes to one command only, and that command's word is this word, so no bit of an
encoding is dropped. -/
def Obligations.DecodeThenEncode : Prop := ∀ (w : Word) (i : Instr), decode w = .ok i → encode i = w

/-- 30_encoding.md R86 and 60_exceptions.md R263: exactly the illegal words fail to decode; one is accepted like any
other, and completes with ILLEGAL_COMMAND and no other effect, LASTOP = CMD[7:0]. -/
def Obligations.IllegalWordCompletes : Prop :=
  (∀ w : Word, (∃ e, decode w = .error e) ↔ IllegalWord w) ∧
  (∀ (s : State) (w : Word), IllegalWord w → s.busy = false →
    writeReg s .cmd w = { s with latch := ⟨w, s.arg0, s.arg1, s.arg2⟩, busy := true }) ∧
  (∀ s : State, IllegalWord s.latch.cmd → s.busy = true → s.events = [] →
    step s = .next { s with
      err := .illegalCommand, lastop := s.latch.cmd.extractLsb' 0 8, busy := false, latch := Latch.empty })

/-- Words of 95_test_vectors.md, Part 2, Encoding. -/
def Obligations.SpecWordsDecode : Prop :=
  decode 0x00000000#32 = .ok .nop ∧
  decode 0x00000011#32 = .ok (.bbWrite .b0) ∧ decode 0x00000111#32 = .ok (.bbWrite .b1) ∧
  decode 0x00000022#32 = .ok .gfDiv ∧ decode 0x00000036#32 = .ok .plDiv ∧
  decode 0x00000040#32 = .ok (.rsEncode .b0) ∧ decode 0x00000140#32 = .ok (.rsEncode .b1) ∧
  decode 0x00000050#32 = .ok .fmLoad ∧
  decode 0x00000063#32 = .ok (.place .b0) ∧ decode 0x00000163#32 = .ok (.place .b1) ∧
  decode 0x00000120#32 = .error .bselNotTaken ∧ decode 0x00000200#32 = .error .reservedBits ∧
  decode 0x00000039#32 = .error .unassignedOpcode

/-- 20_memory.md R64: with a command pending whose word decodes to i, a step that is the engine's turn (no event waits, or
the next event is the engine's turn) is exec of i. -/
def Obligations.StepRunsDecodedCommand : Prop :=
  ∀ (s : State) (i : Instr), s.busy = true → decode s.latch.cmd = .ok i →
    (s.events = [] → step s = exec i s) ∧
    (∀ rest, s.events = .engineTurn :: rest → step s = exec i { s with events := rest })

/-- 60_exceptions.md R260, R270 and 20_memory.md R61: no command and no step stops the machine. -/
def Obligations.EveryStepContinues : Prop :=
  (∀ (i : Instr) (s : State), ∃ t, exec i s = .next t) ∧ (∀ s : State, ∃ t, step s = .next t)

/-- 30_encoding.md R84: an ARG value a command's row does not name does not matter. -/
def Obligations.UnnamedArgsNotRead : Prop :=
  ∀ (i : Instr) (s : State) (v0 v1 v2 : Word),
    ((readsArgs i).1 = true → v0 = s.latch.a0) →
    ((readsArgs i).2.1 = true → v1 = s.latch.a1) →
    ((readsArgs i).2.2 = true → v2 = s.latch.a2) →
    exec i { s with latch := ⟨s.latch.cmd, v0, v1, v2⟩ } = exec i s

/-! ### Invariants, reset, completion, frames -/

/-- The invariant of 10_state.md (R37, R38, R39, R40, R44; canonical stores) is kept by every step from every state that
has it. -/
def Obligations.StepKeepsInvariant : Prop :=
  ∀ s t : State, s.Inv → step s = .next t → t.Inv

/-- The invariant holds right after reset, under every legal configuration. -/
def Obligations.ResetHasInvariant : Prop :=
  State.reset.Inv ∧ ∀ c : Config, c.wellFormed = true → (State.resetWith c).Inv

/-- 70_reset_and_hazards.md R290, R291: the platform's reset gives every piece of state its reset value, whatever was
running, and the reset state has them. -/
def Obligations.ResetValues : Prop :=
  (∀ (s : State) (rest : List Event), s.events = .platformReset :: rest →
    ∃ t, step s = .next t ∧
      t.arg0 = 0 ∧ t.arg1 = 0 ∧ t.arg2 = 0 ∧ t.res0 = 0 ∧ t.res1 = 0 ∧
      t.busy = false ∧ t.overrun = false ∧ t.err = .ok ∧ t.lastop = 0 ∧ t.statusWord = 0 ∧
      regValue t .id = 0x51534501#32 ∧ regValue t .bbCap = BitVec.ofNat 32 s.cfg.bbCapBits ∧
      t.latch = Latch.empty ∧
      t.b0.count = 0 ∧ (∀ i, t.b0.bits.readBit i = false) ∧ t.b1.count = 0 ∧ (∀ i, t.b1.bits.readBit i = false) ∧
      t.pa.len = 0 ∧ t.pb.len = 0 ∧ t.pr.len = 0 ∧
      (∀ i, t.pa.coef.read i = 0) ∧ (∀ i, t.pb.coef.read i = 0) ∧ (∀ i, t.pr.coef.read i = 0) ∧
      (∀ v, t.fmcValid v = false) ∧ t.mv = 0 ∧ (∀ x y, t.cell x y = false)) ∧
  (State.reset.statusWord = 0 ∧ State.reset.arg0 = 0 ∧ State.reset.arg1 = 0 ∧ State.reset.arg2 = 0 ∧
    State.reset.res0 = 0 ∧ State.reset.res1 = 0 ∧ State.reset.busy = false ∧ State.reset.latch = Latch.empty ∧
    State.reset.b0 = BitBuffer.empty ∧ State.reset.b1 = BitBuffer.empty ∧ State.reset.pa = Poly.empty ∧
    State.reset.pb = Poly.empty ∧ State.reset.pr = Poly.empty ∧ State.reset.fmc = 0 ∧ State.reset.mv = 0 ∧
    State.reset.mat = [])

/-- 60_exceptions.md R260, R261: completion writes ERR, LASTOP, BUSY and the latch and leaves OVERRUN; a command that
ends with an error code has no other effect on any state. -/
def Obligations.FailedCommandHasNoEffect : Prop :=
  ∀ (i : Instr) (s t : State), exec i s = .next t →
    t.lastop = s.latch.cmd.extractLsb' 0 8 ∧ t.busy = false ∧ t.latch = Latch.empty ∧ t.overrun = s.overrun ∧
    (t.err ≠ .ok → t = ended s t.err)

/-- 10_state.md section 4 and R24: what each command may write, for all 33 commands; everything else is unchanged. -/
def Obligations.CommandFrame : Prop :=
  ∀ (i : Instr) (s t : State), exec i s = .next t →
    t.cfg = s.cfg ∧ t.arg0 = s.arg0 ∧ t.arg1 = s.arg1 ∧ t.arg2 = s.arg2 ∧
    t.events = s.events ∧ t.readData = s.readData ∧ t.draws = s.draws ∧
    ((writesRes i).1 = false → t.res0 = s.res0) ∧
    ((writesRes i).2 = false → t.res1 = s.res1) ∧
    (∀ b, writesBuf i ≠ some b → t.buf b = s.buf b) ∧
    (i ≠ .plSetlen → i ≠ .plWrite → i ≠ .plMovra → t.pa = s.pa) ∧
    (i ≠ .plSetlen → i ≠ .plWrite → i ≠ .plGen → t.pb = s.pb) ∧
    (i ≠ .plAdd → i ≠ .plMul → i ≠ .plDiv → t.pr = s.pr) ∧
    (i ≠ .fmLoad → i ≠ .fmQuery → i ≠ .fmRowcnt → i ≠ .fmRowrange → i ≠ .place .b0 → i ≠ .place .b1 → t.fmc = s.fmc) ∧
    (i ≠ .matInit → t.mv = s.mv) ∧
    (i ≠ .matInit → i ≠ .matWrite → i ≠ .place .b0 → i ≠ .place .b1 → t.mat = s.mat)

/-- 00_scope.md R3: no step depends on QSE_BASE or BUS_BYTE_ORDER, and a command depends on BB_CAP_BITS only through
CAPACITY_EXCEEDED. -/
def Obligations.ConfigurationDependence : Prop :=
  (∀ (s t : State) (base : Nat) (o : ByteOrder), step s = .next t →
    step { s with cfg := { s.cfg with qseBase := base, busByteOrder := o } } =
      .next { t with cfg := { t.cfg with qseBase := base, busByteOrder := o } }) ∧
  (∀ (i : Instr) (s t u : State) (c : Config), exec i s = .next t → exec i { s with cfg := c } = .next u →
    t.err ≠ .capacityExceeded → u.err ≠ .capacityExceeded → u = { t with cfg := c })

/-! ### The register window -/

/-- 20_memory.md R62: a CMD write is accepted when BUSY = 0, and otherwise dropped with OVERRUN set. -/
def Obligations.CommandAcceptance : Prop :=
  ∀ (s : State) (w : Word) (rest : List Event), s.events = .hostWrite 32 0x00 w :: rest →
    (s.busy = false →
      step s = .next { s with events := rest, latch := ⟨w, s.arg0, s.arg1, s.arg2⟩, busy := true }) ∧
    (s.busy = true → step s = .next { s with events := rest, overrun := true })

/-- 10_state.md R23: the ARG registers are written and read back, with no side effect; an accepted command latches them;
reset value 0. -/
def Obligations.ArgRegisters : Prop :=
  ∀ (s : State) (v : Word) (rest : List Event),
    (s.events = .hostWrite 32 0x04 v :: rest → step s = .next { s with events := rest, arg0 := v }) ∧
    (s.events = .hostWrite 32 0x08 v :: rest → step s = .next { s with events := rest, arg1 := v }) ∧
    (s.events = .hostWrite 32 0x0C v :: rest → step s = .next { s with events := rest, arg2 := v }) ∧
    (s.events = .hostRead 32 0x04 :: rest → step s = .next { s with events := rest, readData := s.arg0 }) ∧
    (s.events = .hostRead 32 0x08 :: rest → step s = .next { s with events := rest, readData := s.arg1 }) ∧
    (s.events = .hostRead 32 0x0C :: rest → step s = .next { s with events := rest, readData := s.arg2 }) ∧
    (s.events = .hostWrite 32 0x00 v :: rest → s.busy = false →
      ∃ t, step s = .next t ∧ t.latch.a0 = s.arg0 ∧ t.latch.a1 = s.arg1 ∧ t.latch.a2 = s.arg2) ∧
    State.reset.arg0 = 0 ∧ State.reset.arg1 = 0 ∧ State.reset.arg2 = 0

/-- 10_state.md R27: OVERRUN is set by a CMD write while BUSY = 1, cleared by a STATUS write with bit 1 = 1, unchanged by
one with bit 1 = 0 and by completion, cleared by reset, and reset to 0. Nothing else changes it. -/
def Obligations.OverrunFlag : Prop :=
  (∀ (s : State) (v : Word) (rest : List Event),
    (s.events = .hostWrite 32 0x00 v :: rest → s.busy = true → step s = .next { s with events := rest, overrun := true }) ∧
    (s.events = .hostWrite 32 0x18 v :: rest → v.getLsbD 1 = true →
      step s = .next { s with events := rest, overrun := false }) ∧
    (s.events = .hostWrite 32 0x18 v :: rest → v.getLsbD 1 = false → step s = .next { s with events := rest })) ∧
  (∀ (s t : State) (rest : List Event), s.events = .platformReset :: rest → step s = .next t → t.overrun = false) ∧
  (∀ (i : Instr) (s t : State), exec i s = .next t → t.overrun = s.overrun) ∧
  (∀ s t : State, step s = .next t → t.overrun ≠ s.overrun →
    (∃ rest, s.events = .platformReset :: rest) ∨
    (∃ off v rest, s.events = .hostWrite 32 off v :: rest ∧
      ((off % 64 = 0x00 ∧ s.busy = true ∧ t.overrun = true) ∨
        (off % 64 = 0x18 ∧ v.getLsbD 1 = true ∧ t.overrun = false)))) ∧
  State.reset.overrun = false

/-- 10_state.md R36: reserved registers read 0, and a write to them or to a read-only register is ignored. -/
def Obligations.ReadOnlyRegisters : Prop :=
  ∀ (s : State) (off : Nat) (v : Word) (rest : List Event),
    (off ∈ [0x10, 0x14, 0x1C, 0x20, 0x24, 0x28, 0x2C, 0x30, 0x34, 0x38, 0x3C] →
      s.events = .hostWrite 32 off v :: rest → step s = .next { s with events := rest }) ∧
    (off ∈ [0x38, 0x3C] → s.events = .hostRead 32 off :: rest →
      step s = .next { s with events := rest, readData := 0 })

/-- 20_memory.md R61: an access of another width or alignment: a write is ignored, a read returns 0 and has no effect;
nothing faults. -/
def Obligations.UndefinedAccesses : Prop :=
  ∀ (s : State) (width off : Nat) (v : Word) (rest : List Event), width ≠ 32 ∨ off % 4 ≠ 0 →
    (s.events = .hostWrite width off v :: rest → step s = .next { s with events := rest }) ∧
    (s.events = .hostRead width off :: rest → step s = .next { s with events := rest, readData := 0 })

/-- 20_memory.md R63: a host read changes no register (only the model's own record of the value returned), and a host
write other than one to CMD, or to STATUS with bit 1 = 1, has no effect but on the ARG register it writes. -/
def Obligations.HostAccessSideEffects : Prop :=
  (∀ (s : State) (width off : Nat) (rest : List Event), s.events = .hostRead width off :: rest →
    ∃ t, step s = .next t ∧ t = { s with events := rest, readData := t.readData, draws := t.draws }) ∧
  (∀ (s : State) (width off : Nat) (v : Word) (rest : List Event), s.events = .hostWrite width off v :: rest →
    off % 64 ≠ 0x00 → ¬ (off % 64 = 0x18 ∧ v.getLsbD 1 = true) →
    ∃ t, step s = .next t ∧ t = { s with events := rest, arg0 := t.arg0, arg1 := t.arg1, arg2 := t.arg2 } ∧
      (off % 64 ≠ 0x04 → t.arg0 = s.arg0) ∧ (off % 64 ≠ 0x08 → t.arg1 = s.arg1) ∧ (off % 64 ≠ 0x0C → t.arg2 = s.arg2))

/-- The window of 10_state.md R21 as a host reads it while BUSY = 0, the offset taken modulo 64 (20_memory.md R60). -/
def Obligations.WindowReadsWhenIdle : Prop :=
  ∀ (s : State) (off : Nat) (rest : List Event), s.busy = false → off % 4 = 0 → s.events = .hostRead 32 off :: rest →
    ∃ v, step s = .next { s with events := rest, readData := v } ∧
      (off % 64 = 0x00 → v = 0) ∧ (off % 64 = 0x04 → v = s.arg0) ∧ (off % 64 = 0x08 → v = s.arg1) ∧
      (off % 64 = 0x0C → v = s.arg2) ∧ (off % 64 = 0x10 → v = s.res0) ∧ (off % 64 = 0x14 → v = s.res1) ∧
      (off % 64 = 0x18 → v = s.statusWord) ∧ (off % 64 = 0x1C → v = 0x51534501#32) ∧
      (off % 64 = 0x20 → v = BitVec.ofNat 32 s.b0.count) ∧ (off % 64 = 0x24 → v = BitVec.ofNat 32 s.b1.count) ∧
      (off % 64 = 0x28 → v = BitVec.ofNat 32 s.cfg.bbCapBits) ∧
      (off % 64 = 0x2C → ∀ k, k < 32 → v.getLsbD k = s.fmcValid (k + 1)) ∧
      (off % 64 = 0x30 → ∀ k, k < 32 → v.getLsbD k = (decide (k < 8) && s.fmcValid (k + 33))) ∧
      (off % 64 = 0x34 → v = BitVec.ofNat 32 s.mv) ∧ (off % 64 = 0x38 → v = 0) ∧ (off % 64 = 0x3C → v = 0)

/-- 70_reset_and_hazards.md R294, R296: while BUSY = 1 a mirror read returns the model's free value (log 6), and RES0,
RES1 and STATUS (ERR and LASTOP among it) read the values the previous command left. -/
def Obligations.ReadsWhileBusy : Prop :=
  ∀ (s : State) (off : Nat) (rest : List Event), s.busy = true → s.events = .hostRead 32 off :: rest →
    (off ∈ [0x20, 0x24, 0x2C, 0x30, 0x34] → step s = .next { s with
      events := rest, readData := Config.mirrorWhileBusy s.draws, draws := s.draws + 1 }) ∧
    (off = 0x10 → step s = .next { s with events := rest, readData := s.res0 }) ∧
    (off = 0x14 → step s = .next { s with events := rest, readData := s.res1 }) ∧
    (off = 0x18 → step s = .next { s with events := rest, readData := s.statusWord })

/-- 10_state.md R26: the layout of STATUS, and that a host write to it affects only OVERRUN; reset value 0. -/
def Obligations.StatusLayout : Prop :=
  (∀ s : State,
    s.statusWord.getLsbD 0 = s.busy ∧ s.statusWord.getLsbD 1 = s.overrun ∧
    s.statusWord.extractLsb' 2 2 = 0 ∧ s.statusWord.extractLsb' 4 4 = s.err.code ∧
    s.statusWord.extractLsb' 8 8 = s.lastop ∧ s.statusWord.extractLsb' 16 16 = 0) ∧
  (∀ (s : State) (v : Word) (rest : List Event), s.events = .hostWrite 32 0x18 v :: rest →
    ∃ t, step s = .next t ∧ t = { s with events := rest, overrun := t.overrun } ∧
      (v.getLsbD 1 = true → t.overrun = false) ∧ (v.getLsbD 1 = false → t.overrun = s.overrun)) ∧
  State.reset.statusWord = 0

/-- 60_exceptions.md R262: the error code values; codes 7 to 15 are never in STATUS.ERR. -/
def Obligations.ErrorCodeValues : Prop :=
  ErrCode.ok.code = 0 ∧ ErrCode.illegalCommand.code = 1 ∧ ErrCode.outOfRange.code = 2 ∧
  ErrCode.invalidArgument.code = 3 ∧ ErrCode.notSupported.code = 4 ∧ ErrCode.divideByZero.code = 5 ∧
  ErrCode.capacityExceeded.code = 6 ∧
  ∀ s : State, (s.statusWord.extractLsb' 4 4).toNat ≤ 6

/-- 20_memory.md R62, R64 and 70_reset_and_hazards.md R295: while a command is pending, host accesses leave it and its
latched operands alone, and once the waiting accesses are done the engine completes it. The bound is the model's
events list (log 3, 4). -/
def Obligations.PendingCommandCompletes : Prop :=
  ∀ s : State, s.busy = true →
    (∀ e ∈ s.events, (∃ w o v, e = .hostWrite w o v) ∨ (∃ w o, e = .hostRead w o)) →
    ∃ t u, core.run s.events.length s = .next t ∧ t.busy = true ∧ t.latch = s.latch ∧ t.events = [] ∧
      t.res0 = s.res0 ∧ t.res1 = s.res1 ∧ t.err = s.err ∧ t.lastop = s.lastop ∧
      step t = .next u ∧ u.busy = false ∧ u.latch = Latch.empty ∧ u.lastop = s.latch.cmd.extractLsb' 0 8

/-- 30_encoding.md R90, R91: an assembler line issued while idle latches its word and operands (an omitted argument keeps
its register), and after its WAIT the STATUS value read shows BUSY = 0 and the command's error code. -/
def Obligations.AssemblerLine : Prop :=
  (∀ (s : State) (l : AsmLine), s.busy = false →
    performAll (issueEvents l) s = .next { s with
      arg0 := l.arg0.getD s.arg0, arg1 := l.arg1.getD s.arg1, arg2 := l.arg2.getD s.arg2,
      latch := ⟨encode l.instr, l.arg0.getD s.arg0, l.arg1.getD s.arg1, l.arg2.getD s.arg2⟩, busy := true }) ∧
  (∀ (s t u : State) (l : AsmLine) (polls : Nat), s.busy = false →
    performAll (issueEvents l) s = .next t → exec l.instr t = .next u →
    ∃ z, performAll (lineEvents l polls) s = .next z ∧ z.readData.getLsbD 0 = false ∧
      z.readData.extractLsb' 4 4 = u.err.code ∧ z.res0 = u.res0 ∧ z.res1 = u.res1)

/-! ### Control and bit buffers -/

/-- 40_control.md R100: NOP: the word is 0x00000000, no other word is NOP's, and it leaves ERR = 0, LASTOP = 0x00 and all
else as it was. -/
def Obligations.NopResult : Prop :=
  decode 0x00000000#32 = .ok .nop ∧ (∀ w : Word, decode w = .ok .nop → w = 0) ∧
  ∀ s : State, exec .nop s = .next (ended s .ok) ∧ (s.latch.cmd = 0 → (ended s .ok).lastop = 0)

/-- 41_bitbuffer.md R116: BB_CLEAR. -/
def Obligations.BbClearResult : Prop :=
  decode 0x00000010#32 = .ok (.bbClear .b0) ∧ decode 0x00000110#32 = .ok (.bbClear .b1) ∧
  ∀ (b : BSel) (s : State), ∃ t, exec (.bbClear b) s = .next t ∧
    (t.buf b).count = 0 ∧ (∀ i, (t.buf b).bits.readBit i = false) ∧ t.buf b.other = s.buf b.other ∧
    t = { ended s .ok with b0 := t.b0, b1 := t.b1 }

/-- 41_bitbuffer.md R112, R120: BB_WRITE with pos = ARG0, value = ARG1, nbits = ARG2: its checks in order, the bits it
writes, the new count, and that nothing else changes. -/
def Obligations.BbWriteResult : Prop :=
  decode 0x00000011#32 = .ok (.bbWrite .b0) ∧ decode 0x00000111#32 = .ok (.bbWrite .b1) ∧
  ∀ (b : BSel) (s : State),
    (32 < s.latch.a2.toNat → exec (.bbWrite b) s = .next (ended s .outOfRange)) ∧
    (s.latch.a2.toNat ≤ 32 → 2 ^ s.latch.a2.toNat ≤ s.latch.a1.toNat →
      exec (.bbWrite b) s = .next (ended s .outOfRange)) ∧
    (s.latch.a2.toNat ≤ 32 → s.latch.a1.toNat < 2 ^ s.latch.a2.toNat →
      s.cfg.bbCapBits < s.latch.a0.toNat + s.latch.a2.toNat →
      exec (.bbWrite b) s = .next (ended s .capacityExceeded)) ∧
    (s.latch.a2.toNat ≤ 32 → s.latch.a1.toNat < 2 ^ s.latch.a2.toNat →
      s.latch.a0.toNat + s.latch.a2.toNat ≤ s.cfg.bbCapBits →
      ∃ t, exec (.bbWrite b) s = .next t ∧
        (∀ k, k < s.latch.a2.toNat → (t.buf b).bits.readBit (s.latch.a0.toNat + k) =
          s.latch.a1.getLsbD (s.latch.a2.toNat - 1 - k)) ∧
        (∀ i, i < s.latch.a0.toNat ∨ s.latch.a0.toNat + s.latch.a2.toNat ≤ i →
          (t.buf b).bits.readBit i = (s.buf b).bits.readBit i) ∧
        (t.buf b).count = max (s.buf b).count (s.latch.a0.toNat + s.latch.a2.toNat) ∧
        t.buf b.other = s.buf b.other ∧
        t = { ended s .ok with b0 := t.b0, b1 := t.b1 })

/-- 41_bitbuffer.md R113: BB_READ with pos = ARG0, nbits = ARG1. -/
def Obligations.BbReadResult : Prop :=
  decode 0x00000012#32 = .ok (.bbRead .b0) ∧ decode 0x00000112#32 = .ok (.bbRead .b1) ∧
  ∀ (b : BSel) (s : State),
    (32 < s.latch.a1.toNat → exec (.bbRead b) s = .next (ended s .outOfRange)) ∧
    (s.latch.a1.toNat ≤ 32 → (s.buf b).count < s.latch.a0.toNat + s.latch.a1.toNat →
      exec (.bbRead b) s = .next (ended s .outOfRange)) ∧
    (s.latch.a1.toNat ≤ 32 → s.latch.a0.toNat + s.latch.a1.toNat ≤ (s.buf b).count →
      ∃ v, exec (.bbRead b) s = .next { ended s .ok with res0 := v } ∧ v.toNat < 2 ^ s.latch.a1.toNat ∧
        ∀ k, k < s.latch.a1.toNat → v.getLsbD (s.latch.a1.toNat - 1 - k) = (s.buf b).bits.readBit (s.latch.a0.toNat + k))

/-- 41_bitbuffer.md R119: what a successful BB_WRITE wrote is what BB_READ of the same range returns, as long as those
bits have not been written again and the count has not been lowered. -/
def Obligations.WriteReadRoundTrip : Prop :=
  ∀ (b : BSel) (s t u : State), exec (.bbWrite b) s = .next t → t.err = .ok →
    (t.buf b).count ≤ (u.buf b).count →
    (∀ i, s.latch.a0.toNat ≤ i → i < s.latch.a0.toNat + s.latch.a2.toNat →
      (u.buf b).bits.readBit i = (t.buf b).bits.readBit i) →
    u.latch.a0 = s.latch.a0 → u.latch.a1 = s.latch.a2 →
    exec (.bbRead b) u = .next { ended u .ok with res0 := s.latch.a1 }

/-- 41_bitbuffer.md R114, R115: BB_GETBIT with i = ARG0; BB_SETBIT with i = ARG0 and v = ARG1[0], which writes one bit
and never changes `count`. -/
def Obligations.BbGetbitSetbitResults : Prop :=
  decode 0x00000013#32 = .ok (.bbGetbit .b0) ∧ decode 0x00000113#32 = .ok (.bbGetbit .b1) ∧
  decode 0x00000014#32 = .ok (.bbSetbit .b0) ∧ decode 0x00000114#32 = .ok (.bbSetbit .b1) ∧
  ∀ (b : BSel) (s : State),
    ((s.buf b).count ≤ s.latch.a0.toNat → exec (.bbGetbit b) s = .next (ended s .outOfRange) ∧
      exec (.bbSetbit b) s = .next (ended s .outOfRange)) ∧
    (s.latch.a0.toNat < (s.buf b).count → exec (.bbGetbit b) s =
      .next { ended s .ok with res0 := if (s.buf b).bits.readBit s.latch.a0.toNat then 1 else 0 }) ∧
    (s.latch.a0.toNat < (s.buf b).count → ∃ t, exec (.bbSetbit b) s = .next t ∧
      (∀ i, (t.buf b).bits.readBit i =
        if i = s.latch.a0.toNat then s.latch.a1.getLsbD 0 else (s.buf b).bits.readBit i) ∧
      (t.buf b).count = (s.buf b).count ∧ t.buf b.other = s.buf b.other ∧
      t = { ended s .ok with b0 := t.b0, b1 := t.b1 })

/-- 41_bitbuffer.md R111, R117, R118: BB_COUNT, and BB_RDBYTE with k = ARG0: the byte view, most significant bit first
and zero-padded. -/
def Obligations.BbCountAndRdbyteResults : Prop :=
  decode 0x00000015#32 = .ok (.bbCount .b0) ∧ decode 0x00000115#32 = .ok (.bbCount .b1) ∧
  decode 0x00000016#32 = .ok (.bbRdbyte .b0) ∧ decode 0x00000116#32 = .ok (.bbRdbyte .b1) ∧
  ∀ (b : BSel) (s : State),
    exec (.bbCount b) s = .next { ended s .ok with
      res0 := BitVec.ofNat 32 (s.buf b).count, res1 := BitVec.ofNat 32 (((s.buf b).count + 7) / 8) } ∧
    (((s.buf b).count + 7) / 8 ≤ s.latch.a0.toNat → exec (.bbRdbyte b) s = .next (ended s .outOfRange)) ∧
    (s.latch.a0.toNat < ((s.buf b).count + 7) / 8 → ∃ v : Byte,
      exec (.bbRdbyte b) s = .next { ended s .ok with res0 := v.setWidth 32 } ∧
      ∀ j, j < 8 → v.getLsbD (7 - j) =
        (decide (8 * s.latch.a0.toNat + j < (s.buf b).count) && (s.buf b).bits.readBit (8 * s.latch.a0.toNat + j)))

/-- 41_bitbuffer.md R121: BB_EQUAL. -/
def Obligations.BbEqualResult : Prop :=
  decode 0x00000017#32 = .ok .bbEqual ∧
  ∀ s : State, ∃ v : Word, exec .bbEqual s = .next { ended s .ok with res0 := v } ∧ (v = 0 ∨ v = 1) ∧
    (v = 1 ↔ s.b0.count = s.b1.count ∧ ∀ i, i < s.b0.count → s.b0.bits.readBit i = s.b1.bits.readBit i)

/-! ### GF(2^8) -/

/-- 42_gf_scalar.md R141, R142: EXP[0] = 1 and the recurrence for i = 0 .. 509, and LOG[x] is the unique i in 0..254 with
EXP[i] = x, for x = 1..255. -/
def Obligations.FieldTables : Prop :=
  gfExp 0 = 1 ∧
  (∀ i, i < 510 → (gfExp (i + 1)).setWidth 9 =
    ((gfExp i).setWidth 9 <<< 1) ^^^ (if (gfExp i).getLsbD 7 then 0x11D#9 else 0#9)) ∧
  (∀ x : Byte, x ≠ 0 → gfLog x < 255 ∧ gfExp (gfLog x) = x ∧ ∀ i, i < 255 → gfExp i = x → i = gfLog x)

/-- 42_gf_scalar.md R140: the table functions are the field's: gf_mul is the product of polynomials over GF(2) reduced by
0x11D, gf_add is their sum, and EXP[i] is α^i with α = 2. -/
def Obligations.FieldIsGF256 : Prop :=
  (∀ a b : Byte, gfMul a b = fieldProduct a b) ∧ (∀ a b : Byte, gfAdd a b = a ^^^ b) ∧
  (∀ i, i < 511 → gfExp i = timesXPow 1 i)

/-- 42_gf_scalar.md R150: the field laws. -/
def Obligations.FieldLaws : Prop :=
  (∀ a b : Byte, gfMul a b = gfMul b a) ∧ (∀ a b : Byte, a ≠ 0 → gfMul a (gfDiv b a) = b) ∧
  (∀ a : Byte, gfAdd a a = 0) ∧ (∀ a : Byte, a ≠ 0 → gfPow a 0 = 1)

/-- 42_gf_scalar.md R144, R145, R147: GF_ADD, GF_MUL and GF_POW, with the functions of R143 written out. -/
def Obligations.GfAddMulPowResults : Prop :=
  decode 0x00000020#32 = .ok .gfAdd ∧ decode 0x00000021#32 = .ok .gfMul ∧ decode 0x00000023#32 = .ok .gfPow ∧
  ∀ s : State,
    exec .gfAdd s = .next { ended s .ok with
      res0 := (s.latch.a0.extractLsb' 0 8 ^^^ s.latch.a1.extractLsb' 0 8).setWidth 32 } ∧
    exec .gfMul s = .next { ended s .ok with
      res0 := (if s.latch.a0.extractLsb' 0 8 = 0 ∨ s.latch.a1.extractLsb' 0 8 = 0 then 0#8
        else gfExp (gfLog (s.latch.a0.extractLsb' 0 8) + gfLog (s.latch.a1.extractLsb' 0 8))).setWidth 32 } ∧
    exec .gfPow s = .next { ended s .ok with
      res0 := (if s.latch.a0.extractLsb' 0 8 ≠ 0
          then gfExp (gfLog (s.latch.a0.extractLsb' 0 8) * s.latch.a1.toNat % 255)
        else if s.latch.a1.toNat = 0 then 1#8 else 0#8).setWidth 32 }

/-- 42_gf_scalar.md R146, R148, R149 and 60_exceptions.md R267: GF_DIV, GF_EXP and GF_LOG, and that no other command
raises DIVIDE_BY_ZERO. -/
def Obligations.GfDivExpLogResults : Prop :=
  decode 0x00000022#32 = .ok .gfDiv ∧ decode 0x00000024#32 = .ok .gfExp ∧ decode 0x00000025#32 = .ok .gfLog ∧
  (∀ s : State,
    (s.latch.a1.extractLsb' 0 8 = 0 → exec .gfDiv s = .next (ended s .divideByZero)) ∧
    (s.latch.a1.extractLsb' 0 8 ≠ 0 → exec .gfDiv s = .next { ended s .ok with
      res0 := (if s.latch.a0.extractLsb' 0 8 = 0 then 0#8
        else gfExp (gfLog (s.latch.a0.extractLsb' 0 8) + 255 - gfLog (s.latch.a1.extractLsb' 0 8))).setWidth 32 }) ∧
    (510 < s.latch.a0.toNat → exec .gfExp s = .next (ended s .outOfRange)) ∧
    (s.latch.a0.toNat ≤ 510 → exec .gfExp s = .next { ended s .ok with res0 := (gfExp s.latch.a0.toNat).setWidth 32 }) ∧
    (s.latch.a0.extractLsb' 0 8 = 0 → exec .gfLog s = .next (ended s .outOfRange)) ∧
    (s.latch.a0.extractLsb' 0 8 ≠ 0 → exec .gfLog s = .next { ended s .ok with
      res0 := BitVec.ofNat 32 (gfLog (s.latch.a0.extractLsb' 0 8)) })) ∧
  (∀ (i : Instr) (s t : State), exec i s = .next t → t.err = .divideByZero →
    i = .gfDiv ∧ s.latch.a1.extractLsb' 0 8 = 0)

/-! ### Polynomials -/

/-- 43_gf_poly.md R160, R161, R162: PL_SETLEN and PL_WRITE, with sel = ARG0. -/
def Obligations.PlSetlenWriteResults : Prop :=
  decode 0x00000030#32 = .ok .plSetlen ∧ decode 0x00000031#32 = .ok .plWrite ∧
  ∀ s : State,
    (2 ≤ s.latch.a0.toNat → exec .plSetlen s = .next (ended s .invalidArgument) ∧
      exec .plWrite s = .next (ended s .invalidArgument)) ∧
    (s.latch.a0.toNat < 2 → 256 < s.latch.a1.toNat → exec .plSetlen s = .next (ended s .outOfRange)) ∧
    (s.latch.a0.toNat < 2 → 256 ≤ s.latch.a1.toNat → exec .plWrite s = .next (ended s .outOfRange)) ∧
    (s.latch.a0.toNat = 0 → s.latch.a1.toNat ≤ 256 →
      exec .plSetlen s = .next { ended s .ok with pa := { s.pa with len := s.latch.a1.toNat } }) ∧
    (s.latch.a0.toNat = 1 → s.latch.a1.toNat ≤ 256 →
      exec .plSetlen s = .next { ended s .ok with pb := { s.pb with len := s.latch.a1.toNat } }) ∧
    (s.latch.a0.toNat = 0 → s.latch.a1.toNat < 256 → ∃ p, exec .plWrite s = .next { ended s .ok with pa := p } ∧
      p.len = s.pa.len ∧ ∀ i, p.coef.read i =
        if i = s.latch.a1.toNat then s.latch.a2.extractLsb' 0 8 else s.pa.coef.read i) ∧
    (s.latch.a0.toNat = 1 → s.latch.a1.toNat < 256 → ∃ p, exec .plWrite s = .next { ended s .ok with pb := p } ∧
      p.len = s.pb.len ∧ ∀ i, p.coef.read i =
        if i = s.latch.a1.toNat then s.latch.a2.extractLsb' 0 8 else s.pb.coef.read i)

/-- 43_gf_poly.md R160, R163, R164: PL_READ and PL_GETLEN, with sel = ARG0: 0 names PA, 1 PB, 2 PR. -/
def Obligations.PlReadGetlenResults : Prop :=
  decode 0x00000032#32 = .ok .plRead ∧ decode 0x00000033#32 = .ok .plGetlen ∧
  ∀ s : State,
    (3 ≤ s.latch.a0.toNat → exec .plRead s = .next (ended s .invalidArgument) ∧
      exec .plGetlen s = .next (ended s .invalidArgument)) ∧
    (∀ p, (s.latch.a0.toNat = 0 ∧ p = s.pa) ∨ (s.latch.a0.toNat = 1 ∧ p = s.pb) ∨ (s.latch.a0.toNat = 2 ∧ p = s.pr) →
      exec .plGetlen s = .next { ended s .ok with res0 := BitVec.ofNat 32 p.len } ∧
      (p.len ≤ s.latch.a1.toNat → exec .plRead s = .next (ended s .outOfRange)) ∧
      (s.latch.a1.toNat < p.len →
        exec .plRead s = .next { ended s .ok with res0 := (p.coef.read s.latch.a1.toNat).setWidth 32 }))

/-- 43_gf_poly.md R165: PL_ADD, coefficient by coefficient. -/
def Obligations.PlAddResult : Prop :=
  decode 0x00000034#32 = .ok .plAdd ∧
  ∀ s : State, ∃ p, exec .plAdd s = .next { ended s .ok with pr := p } ∧ p.len = max s.pa.len s.pb.len ∧
    (∀ i, i < p.len → p.coef.read i =
      (if p.len - s.pa.len ≤ i then s.pa.coef.read (i - (p.len - s.pa.len)) else 0) ^^^
      (if p.len - s.pb.len ≤ i then s.pb.coef.read (i - (p.len - s.pb.len)) else 0)) ∧
    (∀ i, p.len ≤ i → p.coef.read i = s.pr.coef.read i)

/-- 43_gf_poly.md R166: PL_MUL, coefficient by coefficient. -/
def Obligations.PlMulResult : Prop :=
  decode 0x00000035#32 = .ok .plMul ∧
  ∀ s : State, ∃ p, exec .plMul s = .next { ended s .ok with pr := p } ∧
    ((s.pa.len = 0 ∨ s.pb.len = 0) → p.len = 0) ∧
    (s.pa.len ≠ 0 → s.pb.len ≠ 0 → p.len = s.pa.len + s.pb.len - 1) ∧
    (∀ k, k < p.len → p.coef.read k = xorSum (k + 1) (fun i =>
      if i < s.pa.len ∧ k - i < s.pb.len then gfMul (s.pa.coef.read i) (s.pb.coef.read (k - i)) else 0)) ∧
    (∀ k, p.len ≤ k → p.coef.read k = s.pr.coef.read k)

/-- 43_gf_poly.md R167: PL_DIV. Position k of the running dividend is its start value less the multiples of the divisor
that every earlier position subtracts from it; the divisor's first coefficient is never read. -/
def Obligations.PlDivResult : Prop :=
  decode 0x00000036#32 = .ok .plDiv ∧
  ∀ s : State,
    (s.pb.len = 0 → exec .plDiv s = .next (ended s .invalidArgument)) ∧
    (s.pb.len ≠ 0 → ∃ p, exec .plDiv s = .next { ended s .ok with
        pr := p, res0 := BitVec.ofNat 32 s.pa.len, res1 := BitVec.ofNat 32 (s.pb.len - 1) } ∧
      p.len = s.pa.len + s.pb.len - 1 ∧
      (∀ k, k < p.len → p.coef.read k = (if k < s.pa.len then s.pa.coef.read k else 0) ^^^
        xorSum k (fun i => if i < s.pa.len ∧ k - i < s.pb.len then gfMul (s.pb.coef.read (k - i)) (p.coef.read i) else 0)) ∧
      (∀ k, p.len ≤ k → p.coef.read k = s.pr.coef.read k))

/-- 43_gf_poly.md R171: for a monic divisor, PL_DIV leaves Q and Rm with A(x)·x^(LB−1) = Q(x)·B(x) + Rm(x), coefficient
by coefficient, and Rm has LB − 1 places. -/
def Obligations.DivisionIdentity : Prop :=
  ∀ s t : State, s.pb.len ≠ 0 → s.pb.coef.read 0 = 1 → exec .plDiv s = .next t →
    t.pr.len = s.pa.len + (s.pb.len - 1) ∧
    ∀ k, k < t.pr.len →
      (if k < s.pa.len then s.pa.coef.read k else 0) =
        xorSum (k + 1) (fun i =>
          if i < s.pa.len ∧ k - i < s.pb.len then gfMul (t.pr.coef.read i) (s.pb.coef.read (k - i)) else 0) ^^^
        (if s.pa.len ≤ k then t.pr.coef.read k else 0)

/-- 43_gf_poly.md R168, R169 and 60_exceptions.md R266: PL_GEN with n = ARG0, and PL_MOVRA. -/
def Obligations.PlGenMovraResults : Prop :=
  decode 0x00000037#32 = .ok .plGen ∧ decode 0x00000038#32 = .ok .plMovra ∧
  ∀ s : State,
    (s.latch.a0.toNat ∉ supportedEc → exec .plGen s = .next (ended s .notSupported)) ∧
    (s.latch.a0.toNat ∈ supportedEc → ∃ g p, generator s.latch.a0.toNat = some g ∧
      exec .plGen s = .next { ended s .ok with pb := p } ∧ p.len = s.latch.a0.toNat + 1 ∧
      (∀ i, i ≤ s.latch.a0.toNat → p.coef.read i = g.getD i 0) ∧
      (∀ i, s.latch.a0.toNat < i → p.coef.read i = s.pb.coef.read i)) ∧
    (256 < s.pr.len → exec .plMovra s = .next (ended s .outOfRange)) ∧
    (s.pr.len ≤ 256 → ∃ p, exec .plMovra s = .next { ended s .ok with pa := p } ∧ p.len = s.pr.len ∧
      (∀ i, i < s.pr.len → p.coef.read i = s.pr.coef.read i) ∧
      (∀ i, s.pr.len ≤ i → p.coef.read i = s.pa.coef.read i))

/-- 43_gf_poly.md R170: the generator ROM holds G_n = ∏ (x − α^i) over i = 0 .. n − 1 for the 13 counts, with n + 1
coefficients of which the first is 1, and nothing else. -/
def Obligations.GeneratorRomProducts : Prop :=
  (∀ n ∈ supportedEc, generator n =
    some ((List.range n).foldl (fun g i => polyMul g [1, gfExp i]) [1])) ∧
  (∀ n ∈ supportedEc, ∀ g, generator n = some g → g.length = n + 1 ∧ g.head? = some 1) ∧
  (∀ n, n ∉ supportedEc → generator n = none)

/-! ### Reed-Solomon -/

/-- 44_rs_encoder.md R191: the checks of RS_ENCODE, in order. c and d are a group's ARGn[7:0] and ARGn[15:8]. -/
def Obligations.RsEncodeChecks : Prop :=
  ∀ (b : BSel) (s : State) (ec c1 d1 c2 d2 : Nat), ec = s.latch.a0.toNat →
    c1 = s.latch.a1.toNat % 256 → d1 = s.latch.a1.toNat / 256 % 256 →
    c2 = s.latch.a2.toNat % 256 → d2 = s.latch.a2.toNat / 256 % 256 →
    (ec ∉ supportedEc → exec (.rsEncode b) s = .next (ended s .notSupported)) ∧
    (ec ∈ supportedEc →
      (s.latch.a1.toNat / 65536 ≠ 0 ∨ s.latch.a2.toNat / 65536 ≠ 0) ∨ (0 < c1 ∧ d1 = 0) ∨ (0 < c2 ∧ d2 = 0) ∨
        c1 + c2 = 0 ∨ ((s.buf b).count + 7) / 8 ≠ c1 * d1 + c2 * d2 →
      exec (.rsEncode b) s = .next (ended s .invalidArgument)) ∧
    (ec ∈ supportedEc → s.latch.a1.toNat / 65536 = 0 → s.latch.a2.toNat / 65536 = 0 → ¬ (0 < c1 ∧ d1 = 0) →
      ¬ (0 < c2 ∧ d2 = 0) → c1 + c2 ≠ 0 → ((s.buf b).count + 7) / 8 = c1 * d1 + c2 * d2 →
      s.cfg.bbCapBits < 8 * (c1 * d1 + c2 * d2 + (c1 + c2) * ec) →
      exec (.rsEncode b) s = .next (ended s .capacityExceeded))

/-- 44_rs_encoder.md R190, R192, R193, R194, R195: RS_ENCODE when every check passes: the destination holds the
interleaved codewords, most significant bit first, and nothing beyond them; RES0 and RES1; the source and everything
else unchanged. -/
def Obligations.RsEncodeOutput : Prop :=
  decode 0x00000040#32 = .ok (.rsEncode .b0) ∧ decode 0x00000140#32 = .ok (.rsEncode .b1) ∧
  ∀ (b : BSel) (s : State) (ec c1 d1 c2 d2 total : Nat) (g : List Byte), ec = s.latch.a0.toNat →
    c1 = s.latch.a1.toNat % 256 → d1 = s.latch.a1.toNat / 256 % 256 →
    c2 = s.latch.a2.toNat % 256 → d2 = s.latch.a2.toNat / 256 % 256 →
    generator ec = some g → s.latch.a1.toNat / 65536 = 0 → s.latch.a2.toNat / 65536 = 0 → ¬ (0 < c1 ∧ d1 = 0) →
    ¬ (0 < c2 ∧ d2 = 0) → c1 + c2 ≠ 0 → ((s.buf b).count + 7) / 8 = c1 * d1 + c2 * d2 →
    total = c1 * d1 + c2 * d2 + (c1 + c2) * ec → 8 * total ≤ s.cfg.bbCapBits →
    ∃ t, exec (.rsEncode b) s = .next t ∧
      (t.buf b.other).count = 8 * total ∧
      (∀ k j, k < total → j < 8 → (t.buf b.other).bits.readBit (8 * k + j) =
        ((rsOut ec g (rsBlocks (s.buf b) c1 d1 c2 d2)).getD k 0).getLsbD (7 - j)) ∧
      (∀ i, 8 * total ≤ i → (t.buf b.other).bits.readBit i = false) ∧
      t.buf b = s.buf b ∧
      t = { ended s .ok with
        b0 := t.b0, b1 := t.b1, res0 := BitVec.ofNat 32 total, res1 := BitVec.ofNat 32 (c1 + c2) }

/-- 44_rs_encoder.md R196: after a successful RS_ENCODE with D data codewords in c1 + c2 blocks, the first D output
codewords are the data codewords, each once; codeword D + i·(c1 + c2) + k is Ek[i]; and for a single block Ek is the
remainder of its division: Dk(x)·x^ec = Q(x)·G_ec(x) + Ek(x). -/
def Obligations.RsInterleaveLaw : Prop :=
  ∀ (b : BSel) (s t : State) (ec c1 d1 c2 d2 : Nat) (g : List Byte), ec = s.latch.a0.toNat →
    c1 = s.latch.a1.toNat % 256 → d1 = s.latch.a1.toNat / 256 % 256 →
    c2 = s.latch.a2.toNat % 256 → d2 = s.latch.a2.toNat / 256 % 256 →
    exec (.rsEncode b) s = .next t → t.err = .ok → generator ec = some g →
    t.res0.toNat = c1 * d1 + c2 * d2 + (c1 + c2) * ec ∧
    ((t.buf b.other).codewords (c1 * d1 + c2 * d2)).Perm ((s.buf b).codewords (c1 * d1 + c2 * d2)) ∧
    (∀ i k, i < ec → k < c1 + c2 →
      (t.buf b.other).byteAt (c1 * d1 + c2 * d2 + i * (c1 + c2) + k) =
        (errorWords ec g ((rsBlocks (s.buf b) c1 d1 c2 d2).getD k [])).getD i 0) ∧
    (c1 + c2 = 1 →
      ∃ q : List Byte, q.length = c1 * d1 + c2 * d2 ∧
        polyAdd (polyMul q g) ((List.range ec).map (fun i => (t.buf b.other).byteAt (c1 * d1 + c2 * d2 + i))) =
          (s.buf b).codewords (c1 * d1 + c2 * d2) ++ List.replicate ec 0)

/-! ### Function modules -/

/-- 45_function_modules.md R211 to R219: F(v, x, y) = 1 exactly on the union of the stamps. -/
def Obligations.FunctionMapIsUnionOfStamps : Prop :=
  ∀ v x y, 1 ≤ v → v ≤ 40 → x < 17 + 4 * v → y < 17 + 4 * v → (isFunction v x y = true ↔ Stamped v x y)

/-- 45_function_modules.md R213: the forty rows of the table; AC(1) is empty; for v ≥ 2 there are floor(v/7) + 2 entries,
rising, the first 6 and the last N(v) − 7. -/
def Obligations.AlignmentCentres : Prop :=
  (List.range 40).map (fun i => alignCentres (i + 1)) = centreTable ∧
  alignCentres 1 = [] ∧
  ∀ v, 2 ≤ v → v ≤ 40 → (alignCentres v).length = v / 7 + 2 ∧ (alignCentres v).Pairwise (· < ·) ∧
    (alignCentres v).head? = some 6 ∧ (alignCentres v).getLast? = some (17 + 4 * v - 7)

/-- 45_function_modules.md R228: the finder regions are function modules, the last cell is a data module, the run lengths
sum to DM(v), and F is symmetric. -/
def Obligations.FunctionMapLaws : Prop :=
  ∀ v, 1 ≤ v → v ≤ 40 →
    (∀ x y, x < 17 + 4 * v → y < 17 + 4 * v →
      ((x < 8 ∧ y < 8) ∨ (17 + 4 * v ≤ x + 8 ∧ y < 8) ∨ (x < 8 ∧ 17 + 4 * v ≤ y + 8) → isFunction v x y = true) ∧
      isFunction v x y = isFunction v y x) ∧
    isFunction v (17 + 4 * v - 1) (17 + 4 * v - 1) = false ∧
    ((List.range (17 + 4 * v)).map (fun y => ((rowRanges v y).map Prod.snd).sum)).sum = dataModules v

/-- 45_function_modules.md R220: DM(v) counts the data modules, and TC(v) = floor(DM(v) / 8). -/
def Obligations.DataModuleCount : Prop :=
  ∀ v, 1 ≤ v → v ≤ 40 →
    dataModules v = (((Finset.range (17 + 4 * v)) ×ˢ (Finset.range (17 + 4 * v))).filter
      (fun c => isFunction v c.1 c.2 = false)).card ∧
    totalCodewords v = dataModules v / 8

/-- 45_function_modules.md R222: RR(v, y) lists runs of data modules inside the row, each bounded on both sides by a
function module or the row's end, in increasing order without touching, and every data module lies in one. -/
def Obligations.RowRangesAreMaximalRuns : Prop :=
  ∀ v y, 1 ≤ v → v ≤ 40 → y < 17 + 4 * v →
    (∀ r ∈ rowRanges v y, 0 < r.2 ∧ r.1 + r.2 ≤ 17 + 4 * v ∧
      (∀ x, r.1 ≤ x → x < r.1 + r.2 → isFunction v x y = false) ∧
      (r.1 = 0 ∨ isFunction v (r.1 - 1) y = true) ∧
      (r.1 + r.2 = 17 + 4 * v ∨ isFunction v (r.1 + r.2) y = true)) ∧
    (rowRanges v y).Pairwise (fun r q => r.1 + r.2 < q.1) ∧
    (∀ x, x < 17 + 4 * v → isFunction v x y = false → ∃ r ∈ rowRanges v y, r.1 ≤ x ∧ x < r.1 + r.2)

/-- Rows of the tables of 45_function_modules.md R221 and R222, and positions of 46_placer.md R245. -/
def Obligations.WorkedSymbolTables : Prop :=
  (dataModules 1 = 208 ∧ totalCodewords 1 = 26 ∧ dataModules 2 = 359 ∧ totalCodewords 2 = 44 ∧ dataModules 3 = 567 ∧
    dataModules 4 = 807 ∧ dataModules 5 = 1079 ∧ dataModules 6 = 1383 ∧ dataModules 7 = 1568 ∧ totalCodewords 7 = 196) ∧
  (∀ y ∈ [0, 1, 2, 3, 4, 5, 7, 8], rowRanges 1 y = [(9, 4)]) ∧ rowRanges 1 6 = [] ∧
  (∀ y ∈ [9, 10, 11, 12], rowRanges 1 y = [(0, 6), (7, 14)]) ∧ rowRanges 1 20 = [(9, 12)] ∧
  rowRanges 2 16 = [(0, 6), (7, 9), (21, 4)] ∧ rowRanges 2 17 = [(9, 7), (21, 4)] ∧
  rowRanges 7 4 = [(9, 11), (25, 9)] ∧ rowRanges 7 20 = [(0, 4), (9, 11), (25, 11), (41, 4)] ∧
  rowRanges 7 34 = [(7, 38)] ∧ rowRanges 7 36 = [(7, 13), (25, 11), (41, 4)] ∧
  ((zigzag 1).take 4 = [(20, 20), (19, 20), (20, 19), (19, 19)] ∧ (zigzag 1)[23]? = some (19, 9) ∧
    (zigzag 1)[24]? = some (18, 9) ∧ (zigzag 1)[47]? = some (17, 20) ∧ (zigzag 1)[48]? = some (16, 20) ∧
    (zigzag 1)[96]? = some (12, 20) ∧ (zigzag 1)[103]? = some (11, 17) ∧
    (zigzag 1).drop 200 = [(1, 9), (0, 9), (1, 10), (0, 10), (1, 11), (0, 11), (1, 12), (0, 12)]) ∧
  (zigzag 2).drop 351 = [(1, 13), (0, 13), (1, 14), (0, 14), (1, 15), (0, 15), (1, 16), (0, 16)]

/-- 45_function_modules.md R223 to R227: the four FM commands: OUT_OF_RANGE outside the version, the coordinates or the
ranges, with FMC.valid unchanged; otherwise FMC.valid[v] set, no other valid bit changed, and the results. -/
def Obligations.FmCommandResults : Prop :=
  decode 0x00000050#32 = .ok .fmLoad ∧ decode 0x00000051#32 = .ok .fmQuery ∧ decode 0x00000052#32 = .ok .fmRowcnt ∧
  decode 0x00000053#32 = .ok .fmRowrange ∧
  ∀ (s : State) (v a k : Nat), v = s.latch.a0.toNat → a = s.latch.a1.toNat → k = s.latch.a2.toNat →
    (v < 1 ∨ 40 < v → ∀ i ∈ [Instr.fmLoad, .fmQuery, .fmRowcnt, .fmRowrange],
      exec i s = .next (ended s .outOfRange)) ∧
    (1 ≤ v → v ≤ 40 →
      (17 + 4 * v ≤ a → ∀ i ∈ [Instr.fmQuery, .fmRowcnt, .fmRowrange], exec i s = .next (ended s .outOfRange)) ∧
      (17 + 4 * v ≤ k → exec .fmQuery s = .next (ended s .outOfRange)) ∧
      (a < 17 + 4 * v → (rowRanges v a).length ≤ k → exec .fmRowrange s = .next (ended s .outOfRange)) ∧
      ∃ m : BitVec 40, (∀ j, 1 ≤ j → j ≤ 40 → m.getLsbD (j - 1) = (decide (j = v) || s.fmc.getLsbD (j - 1))) ∧
        exec .fmLoad s = .next { ended s .ok with
          fmc := m, res0 := BitVec.ofNat 32 (dataModules v), res1 := BitVec.ofNat 32 (totalCodewords v) } ∧
        (a < 17 + 4 * v → k < 17 + 4 * v → exec .fmQuery s = .next { ended s .ok with
          fmc := m, res0 := if isFunction v a k then 1 else 0 }) ∧
        (a < 17 + 4 * v → exec .fmRowcnt s = .next { ended s .ok with
          fmc := m, res0 := BitVec.ofNat 32 (rowRanges v a).length }) ∧
        (a < 17 + 4 * v → ∀ r, (rowRanges v a)[k]? = some r → exec .fmRowrange s = .next { ended s .ok with
          fmc := m, res0 := BitVec.ofNat 32 r.1, res1 := BitVec.ofNat 32 r.2 }))

/-! ### Matrix and placer -/

/-- 46_placer.md R240, R241, R242: MAT_INIT, MAT_READ and MAT_WRITE. In every state the model reaches MV ≤ 40, a premise
here. -/
def Obligations.MatrixCommandResults : Prop :=
  decode 0x00000060#32 = .ok .matInit ∧ decode 0x00000061#32 = .ok .matRead ∧ decode 0x00000062#32 = .ok .matWrite ∧
  ∀ (s : State) (a c : Nat), s.mv ≤ 40 → a = s.latch.a0.toNat → c = s.latch.a1.toNat →
    (a < 1 ∨ 40 < a → exec .matInit s = .next (ended s .outOfRange)) ∧
    (1 ≤ a → a ≤ 40 → ∃ t, exec .matInit s = .next t ∧ t.mv = a ∧ (∀ x y, t.cell x y = false) ∧
      t = { ended s .ok with mv := a, mat := t.mat }) ∧
    (s.mv = 0 → exec .matRead s = .next (ended s .invalidArgument) ∧
      exec .matWrite s = .next (ended s .invalidArgument)) ∧
    (s.mv ≠ 0 → 17 + 4 * s.mv ≤ a ∨ 17 + 4 * s.mv ≤ c → exec .matRead s = .next (ended s .outOfRange) ∧
      exec .matWrite s = .next (ended s .outOfRange)) ∧
    (s.mv ≠ 0 → a < 17 + 4 * s.mv → c < 17 + 4 * s.mv →
      exec .matRead s = .next { ended s .ok with res0 := if s.cell a c then 1 else 0 } ∧
      ∃ t, exec .matWrite s = .next t ∧ t = { ended s .ok with mat := t.mat } ∧
        ∀ x y, x < 177 → y < 177 → t.cell x y = if x = a ∧ y = c then s.latch.a2.getLsbD 0 else s.cell x y)

/-- 46_placer.md R243: ZZ(v) has DM(v) entries, and they are the data cells of the symbol, each once. -/
def Obligations.ZigzagVisitsEachDataCellOnce : Prop :=
  ∀ v, 1 ≤ v → v ≤ 40 →
    (zigzag v).length = dataModules v ∧ (zigzag v).Nodup ∧
    ∀ x y, (x, y) ∈ zigzag v ↔ x < 17 + 4 * v ∧ y < 17 + 4 * v ∧ isFunction v x y = false

/-- 46_placer.md R243: the order of ZZ(v). Of two cells, the one in the column pair further right comes first; in a pair
(the first bottom to top, then alternating) the row decides, and in a row the right cell comes first. A pair's number
counts from the right, column 6 left out. -/
def Obligations.ZigzagOrder : Prop :=
  ∀ v, 1 ≤ v → v ≤ 40 →
    let col := fun x : Nat => if x < 6 then x else x - 1
    let pair := fun x : Nat => (17 + 4 * v - 2 - col x) / 2
    let height := fun x y : Nat => if pair x % 2 = 0 then 17 + 4 * v - 1 - y else y
    (zigzag v).Pairwise (fun p q =>
      pair p.1 < pair q.1 ∨
      (pair p.1 = pair q.1 ∧ (height p.1 p.2 < height q.1 q.2 ∨ (p.2 = q.2 ∧ q.1 < p.1))))

/-- 46_placer.md R244, R246: PLACE: its checks; and on success the matrix cells of ZZ(MV) take the buffer's bits in
order, function cells and remainder cells keep theirs, FMC.valid[MV] is set, the results, and nothing else changes. In
every state the model reaches MV ≤ 40, a premise here. -/
def Obligations.PlaceResult : Prop :=
  decode 0x00000063#32 = .ok (.place .b0) ∧ decode 0x00000163#32 = .ok (.place .b1) ∧
  ∀ (b : BSel) (s : State), s.mv ≤ 40 →
    (s.mv = 0 → exec (.place b) s = .next (ended s .invalidArgument)) ∧
    (s.mv ≠ 0 → (s.buf b).count ≠ 8 * totalCodewords s.mv → exec (.place b) s = .next (ended s .invalidArgument)) ∧
    (s.mv ≠ 0 → (s.buf b).count = 8 * totalCodewords s.mv → ∃ t, exec (.place b) s = .next t ∧
      (∀ i c, i < 8 * totalCodewords s.mv → (zigzag s.mv)[i]? = some c →
        t.cell c.1 c.2 = (s.buf b).bits.readBit i) ∧
      (∀ x y, x < 177 → y < 177 → isFunction s.mv x y = true ∨ 17 + 4 * s.mv ≤ x ∨ 17 + 4 * s.mv ≤ y →
        t.cell x y = s.cell x y) ∧
      (∀ i c, 8 * totalCodewords s.mv ≤ i → (zigzag s.mv)[i]? = some c → t.cell c.1 c.2 = s.cell c.1 c.2) ∧
      (∀ j, 1 ≤ j → j ≤ 40 → t.fmc.getLsbD (j - 1) = (decide (j = s.mv) || s.fmc.getLsbD (j - 1))) ∧
      t = { ended s .ok with
        mat := t.mat, fmc := t.fmc, res0 := BitVec.ofNat 32 (8 * totalCodewords s.mv),
        res1 := BitVec.ofNat 32 (dataModules s.mv - 8 * totalCodewords s.mv) })
end

