-- ==== Sys2Proof/Laws/Memory.lean ====
section
/-! SUPPORT. The laws of the byte and bit stores: what a read sees after a write, and that every operation keeps the
canonical form. Later proofs cite these instead of unfolding the operations. -/

namespace Sys2Proof.Machine

/-! ### Reading -/

@[simp] theorem Memory.read_nil (k : Nat) : Memory.read [] k = 0 := rfl

theorem Memory.read_cons (a : Nat) (v : Byte) (m : Memory) (k : Nat) :
    Memory.read ((a, v) :: m) k = if a = k then v else Memory.read m k := rfl

theorem Memory.read_erase (m : Memory) (k j : Nat) :
    (m.erase k).read j = if j = k then 0 else m.read j := by
  induction m with
  | nil => simp [Memory.erase]
  | cons c m ih =>
    obtain ⟨a, w⟩ := c
    simp only [Memory.erase] at ih
    by_cases hak : a = k
    · have : ((a, w) :: m).filter (fun c => c.1 != k) = m.filter (fun c => c.1 != k) := by simp [hak]
      simp only [Memory.erase, this, ih, Memory.read_cons]
      split <;> (simp_all; try omega)
    · have : ((a, w) :: m).filter (fun c => c.1 != k) = (a, w) :: m.filter (fun c => c.1 != k) := by simp [hak]
      simp only [Memory.erase, this, Memory.read_cons, ih]
      split <;> split <;> simp_all

theorem Memory.read_insert_same (m : Memory) (k : Nat) (v : Byte) (h : m.all (fun c => c.1 != k)) :
    (m.insert k v).read k = v := by
  induction m with
  | nil => simp [Memory.insert, Memory.read_cons]
  | cons c m ih =>
    obtain ⟨a, w⟩ := c
    simp only [List.all_cons, Bool.and_eq_true, bne_iff_ne, ne_eq] at h
    simp only [Memory.insert]
    split
    · simp [Memory.read_cons]
    · simp [Memory.read_cons, h.1, ih h.2]

theorem Memory.read_insert_ne (m : Memory) (k j : Nat) (v : Byte) (h : j ≠ k) :
    (m.insert k v).read j = m.read j := by
  induction m with
  | nil => simp [Memory.insert, Memory.read_cons, Ne.symm h]
  | cons c m ih =>
    obtain ⟨a, w⟩ := c
    simp only [Memory.insert]
    split
    · simp [Memory.read_cons, Ne.symm h]
    · simp [Memory.read_cons, ih]

theorem Memory.erase_no_key (m : Memory) (k : Nat) : (m.erase k).all (fun c => c.1 != k) := by
  simp [Memory.erase]

/-- A read after a write sees the value written there, and elsewhere what it saw before. -/
theorem Memory.read_write (m : Memory) (k j : Nat) (v : Byte) :
    (m.write k v).read j = if j = k then v else m.read j := by
  unfold Memory.write
  split
  · rename_i hv
    simp [Memory.read_erase, hv]
  · by_cases hj : j = k
    · subst hj
      simp [Memory.read_insert_same _ _ _ (Memory.erase_no_key m j)]
    · simp [Memory.read_insert_ne _ _ _ _ hj, Memory.read_erase, hj]

/-- What a read sees after consecutive bytes are written. -/
theorem Memory.read_writeBytes (vs : List Byte) :
    ∀ (m : Memory) (k j : Nat),
      (m.writeBytes k vs).read j = if k ≤ j ∧ j < k + vs.length then vs.getD (j - k) 0 else m.read j := by
  induction vs with
  | nil => intro m k j; simp only [Memory.writeBytes, List.length_nil]; rw [if_neg (by omega)]
  | cons v vs ih =>
    intro m k j
    simp only [Memory.writeBytes, ih, Memory.read_write, List.length_cons]
    by_cases hj : j = k
    · subst hj
      rw [if_neg (by omega), if_pos rfl, if_pos (by omega)]
      simp
    · by_cases hlt : k + 1 ≤ j ∧ j < k + 1 + vs.length
      · rw [if_pos hlt, if_pos (by omega)]
        have : j - k = (j - (k + 1)) + 1 := by omega
        rw [this, List.getD_cons_succ]
      · rw [if_neg hlt, if_neg hj, if_neg (by omega)]

theorem Memory.length_readBytes (m : Memory) (k n : Nat) : (m.readBytes k n).length = n := by
  simp [Memory.readBytes]

theorem Memory.getD_readBytes (m : Memory) (k n i : Nat) (h : i < n) :
    (m.readBytes k n).getD i 0 = m.read (k + i) := by
  simp [Memory.readBytes, List.getD, h]

/-! ### The canonical form -/

theorem Memory.wf_nil : Memory.wf [] := ⟨List.Pairwise.nil, fun _ h => nomatch h⟩

theorem Memory.wf_erase (m : Memory) (k : Nat) (h : m.wf) : (m.erase k).wf :=
  ⟨h.1.filter _, fun c hc => h.2 c (List.mem_of_mem_filter hc)⟩

theorem Memory.mem_insert (m : Memory) (k : Nat) (v : Byte) (c : Host.Cell) :
    c ∈ m.insert k v ↔ c = (k, v) ∨ c ∈ m := by
  induction m with
  | nil => simp [Memory.insert]
  | cons d m ih =>
    obtain ⟨a, w⟩ := d
    simp only [Memory.insert]
    split
    · simp
    · simp only [List.mem_cons, ih]; tauto

theorem Memory.wf_insert (m : Memory) (k : Nat) (v : Byte) (h : m.wf) (hk : m.all (fun c => c.1 != k))
    (hv : v ≠ 0) : (m.insert k v).wf := by
  induction m with
  | nil => exact ⟨List.pairwise_singleton .., fun c hc => by simp only [Memory.insert, List.mem_singleton] at hc; rw [hc]; exact hv⟩
  | cons d m ih =>
    obtain ⟨a, w⟩ := d
    have hm : Memory.wf m := ⟨(List.pairwise_cons.mp h.1).2, fun c hc => h.2 c (List.mem_cons_of_mem _ hc)⟩
    simp only [List.all_cons, Bool.and_eq_true, bne_iff_ne, ne_eq] at hk
    have hlow := (List.pairwise_cons.mp h.1).1
    simp only [Memory.insert]
    split
    · rename_i hka
      refine ⟨List.pairwise_cons.mpr ⟨?_, h.1⟩, ?_⟩
      · intro c hc
        rcases List.mem_cons.mp hc with rfl | hc
        · exact hka
        · exact Nat.lt_trans hka (hlow c hc)
      · intro c hc
        rcases List.mem_cons.mp hc with rfl | hc
        · exact hv
        · exact h.2 c hc
    · rename_i hka
      obtain ⟨h1, h2⟩ := ih hm hk.2
      refine ⟨List.pairwise_cons.mpr ⟨?_, h1⟩, ?_⟩
      · intro c hc
        rcases (Memory.mem_insert m k v c).mp hc with rfl | hc
        · show a < k; omega
        · exact hlow c hc
      · intro c hc
        rcases List.mem_cons.mp hc with rfl | hc
        · exact h.2 _ (List.mem_cons_self ..)
        · exact h2 c hc

/-- A write keeps the canonical form. -/
theorem Memory.wf_write (m : Memory) (k : Nat) (v : Byte) (h : m.wf) : (m.write k v).wf := by
  unfold Memory.write
  split
  · exact Memory.wf_erase m k h
  · exact Memory.wf_insert _ k v (Memory.wf_erase m k h) (Memory.erase_no_key m k) ‹_›

theorem Memory.wf_writeBytes (vs : List Byte) : ∀ (m : Memory) (k : Nat), m.wf → (m.writeBytes k vs).wf := by
  induction vs with
  | nil => intro m k h; exact h
  | cons v vs ih => intro m k h; exact ih _ _ (Memory.wf_write m k v h)

theorem Memory.wf_writeBit (m : Memory) (i : Nat) (v : Bool) (h : m.wf) : (m.writeBit i v).wf :=
  Memory.wf_write _ _ _ h

theorem Memory.wf_writeBits (vs : List Bool) : ∀ (m : Memory) (p : Nat), m.wf → (m.writeBits p vs).wf := by
  induction vs with
  | nil => intro m p h; exact h
  | cons v vs ih => intro m p h; exact ih _ _ (Memory.wf_writeBit m p v h)

theorem placeBits_wf (cs : List (Nat × Nat)) :
    ∀ (m : Memory) (vs : List Bool), m.wf → (placeBits m cs vs).wf := by
  induction cs with
  | nil => intro m vs h; cases vs <;> exact h
  | cons c cs ih =>
    intro m vs h
    cases vs with
    | nil => exact h
    | cons v vs => exact ih _ _ (Memory.wf_writeBit _ _ _ h)

/-- Every listed address of a written store is the written one or was listed before. -/
theorem Memory.mem_write (m : Memory) (k : Nat) (v : Byte) (c : Host.Cell) (h : c ∈ m.write k v) :
    c.1 = k ∨ c ∈ m := by
  unfold Memory.write at h
  split at h
  · exact .inr (List.mem_of_mem_filter h)
  · rcases (Memory.mem_insert _ _ _ _).mp h with rfl | h
    · exact .inl rfl
    · exact .inr (List.mem_of_mem_filter h)

theorem Memory.mem_writeBytes (vs : List Byte) :
    ∀ (m : Memory) (k : Nat) (c : Host.Cell), c ∈ m.writeBytes k vs → (k ≤ c.1 ∧ c.1 < k + vs.length) ∨ c ∈ m := by
  induction vs with
  | nil => intro m k c h; exact .inr h
  | cons v vs ih =>
    intro m k c h
    rcases ih _ _ _ h with h | h
    · left; simp only [List.length_cons]; omega
    · rcases Memory.mem_write m k v c h with h | h
      · left; simp only [List.length_cons]; omega
      · exact .inr h

/-! ### Bits -/

theorem getLsbD_setByteBit (b : Byte) (j i : Nat) (v : Bool) (hi : i < 8) :
    (setByteBit b j v).getLsbD i = if i = j then v else b.getLsbD i := by
  unfold setByteBit
  cases v
  · by_cases h : i = j
    · subst h; simp
    · simp [h, hi]
  · by_cases h : i = j
    · subst h; simp [hi]
    · simp [h, Ne.symm h]

@[simp] theorem Memory.readBit_nil (i : Nat) : Memory.readBit [] i = false := by
  simp [Memory.readBit]

/-- A bit read after a bit write sees the value written there, and elsewhere what it saw before. -/
theorem Memory.readBit_writeBit (m : Memory) (i j : Nat) (v : Bool) :
    (m.writeBit i v).readBit j = if j = i then v else m.readBit j := by
  unfold Memory.readBit Memory.writeBit
  rw [Memory.read_write]
  by_cases hd : j / 8 = i / 8
  · rw [if_pos hd, getLsbD_setByteBit _ _ _ _ (by omega)]
    by_cases hj : j = i
    · subst hj; simp
    · rw [if_neg (by omega), if_neg hj, hd]
  · rw [if_neg hd, if_neg (by rintro rfl; exact hd rfl)]

/-- What a bit read sees after consecutive bits are written. -/
theorem Memory.readBit_writeBits (vs : List Bool) :
    ∀ (m : Memory) (p j : Nat),
      (m.writeBits p vs).readBit j =
        if p ≤ j ∧ j < p + vs.length then vs.getD (j - p) false else m.readBit j := by
  induction vs with
  | nil => intro m p j; simp only [Memory.writeBits, List.length_nil]; rw [if_neg (by omega)]
  | cons v vs ih =>
    intro m p j
    simp only [Memory.writeBits, ih, Memory.readBit_writeBit, List.length_cons]
    by_cases hj : j = p
    · subst hj
      rw [if_neg (by omega), if_pos rfl, if_pos (by omega)]
      simp
    · by_cases hlt : p + 1 ≤ j ∧ j < p + 1 + vs.length
      · rw [if_pos hlt, if_pos (by omega)]
        have : j - p = (j - (p + 1)) + 1 := by omega
        rw [this, List.getD_cons_succ]
      · rw [if_neg hlt, if_neg hj, if_neg (by omega)]

/-- What a bit read sees after consecutive bytes are written: most significant bit of each byte first. -/
theorem Memory.readBit_writeBytes (m : Memory) (vs : List Byte) (k j : Nat) :
    (m.writeBytes k vs).readBit j =
      if k ≤ j / 8 ∧ j / 8 < k + vs.length then (vs.getD (j / 8 - k) 0).getLsbD (7 - j % 8) else m.readBit j := by
  unfold Memory.readBit
  rw [Memory.read_writeBytes]
  split <;> rfl

theorem Memory.length_readBits (m : Memory) (p n : Nat) : (m.readBits p n).length = n := by
  simp [Memory.readBits]

theorem Memory.getD_readBits (m : Memory) (p n k : Nat) (h : k < n) :
    (m.readBits p n).getD k false = m.readBit (p + k) := by
  simp [Memory.readBits, List.getD, h]

theorem length_msbFirst (v : Word) (n : Nat) : (msbFirst v n).length = n := by
  simp [msbFirst]

theorem getD_msbFirst (v : Word) (n k : Nat) (h : k < n) :
    (msbFirst v n).getD k false = v.getLsbD (n - 1 - k) := by
  simp [msbFirst, List.getD, h]

theorem bitsToNat_lt (vs : List Bool) : bitsToNat vs < 2 ^ vs.length := by
  induction vs with
  | nil => simp [bitsToNat]
  | cons v vs ih =>
    simp only [bitsToNat, List.length_cons, Nat.pow_succ]
    cases v <;> simp <;> omega

/-- The bits of the number a bit sequence stands for: bit i is the i-th from the end. -/
theorem testBit_bitsToNat (vs : List Bool) (i : Nat) (h : i < vs.length) :
    (bitsToNat vs).testBit i = vs.getD (vs.length - 1 - i) false := by
  induction vs with
  | nil => simp at h
  | cons v vs ih =>
    simp only [bitsToNat, List.length_cons] at h ⊢
    by_cases hi : i < vs.length
    · have : vs.length + 1 - 1 - i = (vs.length - 1 - i) + 1 := by omega
      rw [this, List.getD_cons_succ, ← ih hi, Nat.mul_comm, Nat.testBit_two_pow_mul_add _ (bitsToNat_lt vs)]
      simp [hi]
    · have hi' : i = vs.length := by omega
      subst hi'
      rw [Nat.mul_comm, Nat.testBit_two_pow_mul_add _ (bitsToNat_lt vs)]
      cases v <;> simp

/-! ### Placing bits in the matrix -/

theorem cellIndex_inj {x y x' y' : Nat} (hy : y < 177) (hy' : y' < 177)
    (h : cellIndex x y = cellIndex x' y') : x = x' ∧ y = y' := by
  unfold cellIndex at h; omega

/-- A bit outside the placed cells reads as before. -/
theorem readBit_placeBits_other (cs : List (Nat × Nat)) (j : Nat)
    (h : ∀ c ∈ cs, cellIndex c.1 c.2 ≠ j) :
    ∀ (m : Memory) (vs : List Bool), (placeBits m cs vs).readBit j = m.readBit j := by
  induction cs with
  | nil => intro m vs; cases vs <;> rfl
  | cons c cs ih =>
    intro m vs
    cases vs with
    | nil => rfl
    | cons v vs =>
      have hc := h c (List.mem_cons_self ..)
      rw [placeBits, ih (fun d hd => h d (List.mem_cons_of_mem _ hd)), Memory.readBit_writeBit,
        if_neg (fun e => hc e.symm)]

end Sys2Proof.Machine
end

