-- ==== Sys2Proof/Laws/State.lean ====
section
/-! SUPPORT. One lemma per field of State per update, so that no later proof unfolds a record update. -/

namespace Sys2Proof.Machine

/-! ### setRes0 -/

@[simp] theorem State.setRes0_cfg (s : State) (v : Word) : (s.setRes0 v).cfg = s.cfg := rfl
@[simp] theorem State.setRes0_arg0 (s : State) (v : Word) : (s.setRes0 v).arg0 = s.arg0 := rfl
@[simp] theorem State.setRes0_arg1 (s : State) (v : Word) : (s.setRes0 v).arg1 = s.arg1 := rfl
@[simp] theorem State.setRes0_arg2 (s : State) (v : Word) : (s.setRes0 v).arg2 = s.arg2 := rfl
@[simp] theorem State.setRes0_res0 (s : State) (v : Word) : (s.setRes0 v).res0 = v := rfl
@[simp] theorem State.setRes0_res1 (s : State) (v : Word) : (s.setRes0 v).res1 = s.res1 := rfl
@[simp] theorem State.setRes0_busy (s : State) (v : Word) : (s.setRes0 v).busy = s.busy := rfl
@[simp] theorem State.setRes0_overrun (s : State) (v : Word) : (s.setRes0 v).overrun = s.overrun := rfl
@[simp] theorem State.setRes0_err (s : State) (v : Word) : (s.setRes0 v).err = s.err := rfl
@[simp] theorem State.setRes0_lastop (s : State) (v : Word) : (s.setRes0 v).lastop = s.lastop := rfl
@[simp] theorem State.setRes0_latch (s : State) (v : Word) : (s.setRes0 v).latch = s.latch := rfl
@[simp] theorem State.setRes0_b0 (s : State) (v : Word) : (s.setRes0 v).b0 = s.b0 := rfl
@[simp] theorem State.setRes0_b1 (s : State) (v : Word) : (s.setRes0 v).b1 = s.b1 := rfl
@[simp] theorem State.setRes0_pa (s : State) (v : Word) : (s.setRes0 v).pa = s.pa := rfl
@[simp] theorem State.setRes0_pb (s : State) (v : Word) : (s.setRes0 v).pb = s.pb := rfl
@[simp] theorem State.setRes0_pr (s : State) (v : Word) : (s.setRes0 v).pr = s.pr := rfl
@[simp] theorem State.setRes0_fmc (s : State) (v : Word) : (s.setRes0 v).fmc = s.fmc := rfl
@[simp] theorem State.setRes0_mv (s : State) (v : Word) : (s.setRes0 v).mv = s.mv := rfl
@[simp] theorem State.setRes0_mat (s : State) (v : Word) : (s.setRes0 v).mat = s.mat := rfl
@[simp] theorem State.setRes0_events (s : State) (v : Word) : (s.setRes0 v).events = s.events := rfl
@[simp] theorem State.setRes0_readData (s : State) (v : Word) : (s.setRes0 v).readData = s.readData := rfl
@[simp] theorem State.setRes0_draws (s : State) (v : Word) : (s.setRes0 v).draws = s.draws := rfl

/-! ### setRes1 -/

@[simp] theorem State.setRes1_cfg (s : State) (v : Word) : (s.setRes1 v).cfg = s.cfg := rfl
@[simp] theorem State.setRes1_arg0 (s : State) (v : Word) : (s.setRes1 v).arg0 = s.arg0 := rfl
@[simp] theorem State.setRes1_arg1 (s : State) (v : Word) : (s.setRes1 v).arg1 = s.arg1 := rfl
@[simp] theorem State.setRes1_arg2 (s : State) (v : Word) : (s.setRes1 v).arg2 = s.arg2 := rfl
@[simp] theorem State.setRes1_res0 (s : State) (v : Word) : (s.setRes1 v).res0 = s.res0 := rfl
@[simp] theorem State.setRes1_res1 (s : State) (v : Word) : (s.setRes1 v).res1 = v := rfl
@[simp] theorem State.setRes1_busy (s : State) (v : Word) : (s.setRes1 v).busy = s.busy := rfl
@[simp] theorem State.setRes1_overrun (s : State) (v : Word) : (s.setRes1 v).overrun = s.overrun := rfl
@[simp] theorem State.setRes1_err (s : State) (v : Word) : (s.setRes1 v).err = s.err := rfl
@[simp] theorem State.setRes1_lastop (s : State) (v : Word) : (s.setRes1 v).lastop = s.lastop := rfl
@[simp] theorem State.setRes1_latch (s : State) (v : Word) : (s.setRes1 v).latch = s.latch := rfl
@[simp] theorem State.setRes1_b0 (s : State) (v : Word) : (s.setRes1 v).b0 = s.b0 := rfl
@[simp] theorem State.setRes1_b1 (s : State) (v : Word) : (s.setRes1 v).b1 = s.b1 := rfl
@[simp] theorem State.setRes1_pa (s : State) (v : Word) : (s.setRes1 v).pa = s.pa := rfl
@[simp] theorem State.setRes1_pb (s : State) (v : Word) : (s.setRes1 v).pb = s.pb := rfl
@[simp] theorem State.setRes1_pr (s : State) (v : Word) : (s.setRes1 v).pr = s.pr := rfl
@[simp] theorem State.setRes1_fmc (s : State) (v : Word) : (s.setRes1 v).fmc = s.fmc := rfl
@[simp] theorem State.setRes1_mv (s : State) (v : Word) : (s.setRes1 v).mv = s.mv := rfl
@[simp] theorem State.setRes1_mat (s : State) (v : Word) : (s.setRes1 v).mat = s.mat := rfl
@[simp] theorem State.setRes1_events (s : State) (v : Word) : (s.setRes1 v).events = s.events := rfl
@[simp] theorem State.setRes1_readData (s : State) (v : Word) : (s.setRes1 v).readData = s.readData := rfl
@[simp] theorem State.setRes1_draws (s : State) (v : Word) : (s.setRes1 v).draws = s.draws := rfl

/-! ### setPa -/

@[simp] theorem State.setPa_cfg (s : State) (p : Poly) : (s.setPa p).cfg = s.cfg := rfl
@[simp] theorem State.setPa_arg0 (s : State) (p : Poly) : (s.setPa p).arg0 = s.arg0 := rfl
@[simp] theorem State.setPa_arg1 (s : State) (p : Poly) : (s.setPa p).arg1 = s.arg1 := rfl
@[simp] theorem State.setPa_arg2 (s : State) (p : Poly) : (s.setPa p).arg2 = s.arg2 := rfl
@[simp] theorem State.setPa_res0 (s : State) (p : Poly) : (s.setPa p).res0 = s.res0 := rfl
@[simp] theorem State.setPa_res1 (s : State) (p : Poly) : (s.setPa p).res1 = s.res1 := rfl
@[simp] theorem State.setPa_busy (s : State) (p : Poly) : (s.setPa p).busy = s.busy := rfl
@[simp] theorem State.setPa_overrun (s : State) (p : Poly) : (s.setPa p).overrun = s.overrun := rfl
@[simp] theorem State.setPa_err (s : State) (p : Poly) : (s.setPa p).err = s.err := rfl
@[simp] theorem State.setPa_lastop (s : State) (p : Poly) : (s.setPa p).lastop = s.lastop := rfl
@[simp] theorem State.setPa_latch (s : State) (p : Poly) : (s.setPa p).latch = s.latch := rfl
@[simp] theorem State.setPa_b0 (s : State) (p : Poly) : (s.setPa p).b0 = s.b0 := rfl
@[simp] theorem State.setPa_b1 (s : State) (p : Poly) : (s.setPa p).b1 = s.b1 := rfl
@[simp] theorem State.setPa_pa (s : State) (p : Poly) : (s.setPa p).pa = p := rfl
@[simp] theorem State.setPa_pb (s : State) (p : Poly) : (s.setPa p).pb = s.pb := rfl
@[simp] theorem State.setPa_pr (s : State) (p : Poly) : (s.setPa p).pr = s.pr := rfl
@[simp] theorem State.setPa_fmc (s : State) (p : Poly) : (s.setPa p).fmc = s.fmc := rfl
@[simp] theorem State.setPa_mv (s : State) (p : Poly) : (s.setPa p).mv = s.mv := rfl
@[simp] theorem State.setPa_mat (s : State) (p : Poly) : (s.setPa p).mat = s.mat := rfl
@[simp] theorem State.setPa_events (s : State) (p : Poly) : (s.setPa p).events = s.events := rfl
@[simp] theorem State.setPa_readData (s : State) (p : Poly) : (s.setPa p).readData = s.readData := rfl
@[simp] theorem State.setPa_draws (s : State) (p : Poly) : (s.setPa p).draws = s.draws := rfl

/-! ### setPb -/

@[simp] theorem State.setPb_cfg (s : State) (p : Poly) : (s.setPb p).cfg = s.cfg := rfl
@[simp] theorem State.setPb_arg0 (s : State) (p : Poly) : (s.setPb p).arg0 = s.arg0 := rfl
@[simp] theorem State.setPb_arg1 (s : State) (p : Poly) : (s.setPb p).arg1 = s.arg1 := rfl
@[simp] theorem State.setPb_arg2 (s : State) (p : Poly) : (s.setPb p).arg2 = s.arg2 := rfl
@[simp] theorem State.setPb_res0 (s : State) (p : Poly) : (s.setPb p).res0 = s.res0 := rfl
@[simp] theorem State.setPb_res1 (s : State) (p : Poly) : (s.setPb p).res1 = s.res1 := rfl
@[simp] theorem State.setPb_busy (s : State) (p : Poly) : (s.setPb p).busy = s.busy := rfl
@[simp] theorem State.setPb_overrun (s : State) (p : Poly) : (s.setPb p).overrun = s.overrun := rfl
@[simp] theorem State.setPb_err (s : State) (p : Poly) : (s.setPb p).err = s.err := rfl
@[simp] theorem State.setPb_lastop (s : State) (p : Poly) : (s.setPb p).lastop = s.lastop := rfl
@[simp] theorem State.setPb_latch (s : State) (p : Poly) : (s.setPb p).latch = s.latch := rfl
@[simp] theorem State.setPb_b0 (s : State) (p : Poly) : (s.setPb p).b0 = s.b0 := rfl
@[simp] theorem State.setPb_b1 (s : State) (p : Poly) : (s.setPb p).b1 = s.b1 := rfl
@[simp] theorem State.setPb_pa (s : State) (p : Poly) : (s.setPb p).pa = s.pa := rfl
@[simp] theorem State.setPb_pb (s : State) (p : Poly) : (s.setPb p).pb = p := rfl
@[simp] theorem State.setPb_pr (s : State) (p : Poly) : (s.setPb p).pr = s.pr := rfl
@[simp] theorem State.setPb_fmc (s : State) (p : Poly) : (s.setPb p).fmc = s.fmc := rfl
@[simp] theorem State.setPb_mv (s : State) (p : Poly) : (s.setPb p).mv = s.mv := rfl
@[simp] theorem State.setPb_mat (s : State) (p : Poly) : (s.setPb p).mat = s.mat := rfl
@[simp] theorem State.setPb_events (s : State) (p : Poly) : (s.setPb p).events = s.events := rfl
@[simp] theorem State.setPb_readData (s : State) (p : Poly) : (s.setPb p).readData = s.readData := rfl
@[simp] theorem State.setPb_draws (s : State) (p : Poly) : (s.setPb p).draws = s.draws := rfl

/-! ### setPr -/

@[simp] theorem State.setPr_cfg (s : State) (p : Poly) : (s.setPr p).cfg = s.cfg := rfl
@[simp] theorem State.setPr_arg0 (s : State) (p : Poly) : (s.setPr p).arg0 = s.arg0 := rfl
@[simp] theorem State.setPr_arg1 (s : State) (p : Poly) : (s.setPr p).arg1 = s.arg1 := rfl
@[simp] theorem State.setPr_arg2 (s : State) (p : Poly) : (s.setPr p).arg2 = s.arg2 := rfl
@[simp] theorem State.setPr_res0 (s : State) (p : Poly) : (s.setPr p).res0 = s.res0 := rfl
@[simp] theorem State.setPr_res1 (s : State) (p : Poly) : (s.setPr p).res1 = s.res1 := rfl
@[simp] theorem State.setPr_busy (s : State) (p : Poly) : (s.setPr p).busy = s.busy := rfl
@[simp] theorem State.setPr_overrun (s : State) (p : Poly) : (s.setPr p).overrun = s.overrun := rfl
@[simp] theorem State.setPr_err (s : State) (p : Poly) : (s.setPr p).err = s.err := rfl
@[simp] theorem State.setPr_lastop (s : State) (p : Poly) : (s.setPr p).lastop = s.lastop := rfl
@[simp] theorem State.setPr_latch (s : State) (p : Poly) : (s.setPr p).latch = s.latch := rfl
@[simp] theorem State.setPr_b0 (s : State) (p : Poly) : (s.setPr p).b0 = s.b0 := rfl
@[simp] theorem State.setPr_b1 (s : State) (p : Poly) : (s.setPr p).b1 = s.b1 := rfl
@[simp] theorem State.setPr_pa (s : State) (p : Poly) : (s.setPr p).pa = s.pa := rfl
@[simp] theorem State.setPr_pb (s : State) (p : Poly) : (s.setPr p).pb = s.pb := rfl
@[simp] theorem State.setPr_pr (s : State) (p : Poly) : (s.setPr p).pr = p := rfl
@[simp] theorem State.setPr_fmc (s : State) (p : Poly) : (s.setPr p).fmc = s.fmc := rfl
@[simp] theorem State.setPr_mv (s : State) (p : Poly) : (s.setPr p).mv = s.mv := rfl
@[simp] theorem State.setPr_mat (s : State) (p : Poly) : (s.setPr p).mat = s.mat := rfl
@[simp] theorem State.setPr_events (s : State) (p : Poly) : (s.setPr p).events = s.events := rfl
@[simp] theorem State.setPr_readData (s : State) (p : Poly) : (s.setPr p).readData = s.readData := rfl
@[simp] theorem State.setPr_draws (s : State) (p : Poly) : (s.setPr p).draws = s.draws := rfl

/-! ### markFmc -/

@[simp] theorem State.markFmc_cfg (s : State) (v : Nat) : (s.markFmc v).cfg = s.cfg := rfl
@[simp] theorem State.markFmc_arg0 (s : State) (v : Nat) : (s.markFmc v).arg0 = s.arg0 := rfl
@[simp] theorem State.markFmc_arg1 (s : State) (v : Nat) : (s.markFmc v).arg1 = s.arg1 := rfl
@[simp] theorem State.markFmc_arg2 (s : State) (v : Nat) : (s.markFmc v).arg2 = s.arg2 := rfl
@[simp] theorem State.markFmc_res0 (s : State) (v : Nat) : (s.markFmc v).res0 = s.res0 := rfl
@[simp] theorem State.markFmc_res1 (s : State) (v : Nat) : (s.markFmc v).res1 = s.res1 := rfl
@[simp] theorem State.markFmc_busy (s : State) (v : Nat) : (s.markFmc v).busy = s.busy := rfl
@[simp] theorem State.markFmc_overrun (s : State) (v : Nat) : (s.markFmc v).overrun = s.overrun := rfl
@[simp] theorem State.markFmc_err (s : State) (v : Nat) : (s.markFmc v).err = s.err := rfl
@[simp] theorem State.markFmc_lastop (s : State) (v : Nat) : (s.markFmc v).lastop = s.lastop := rfl
@[simp] theorem State.markFmc_latch (s : State) (v : Nat) : (s.markFmc v).latch = s.latch := rfl
@[simp] theorem State.markFmc_b0 (s : State) (v : Nat) : (s.markFmc v).b0 = s.b0 := rfl
@[simp] theorem State.markFmc_b1 (s : State) (v : Nat) : (s.markFmc v).b1 = s.b1 := rfl
@[simp] theorem State.markFmc_pa (s : State) (v : Nat) : (s.markFmc v).pa = s.pa := rfl
@[simp] theorem State.markFmc_pb (s : State) (v : Nat) : (s.markFmc v).pb = s.pb := rfl
@[simp] theorem State.markFmc_pr (s : State) (v : Nat) : (s.markFmc v).pr = s.pr := rfl
@[simp] theorem State.markFmc_fmc (s : State) (v : Nat) : (s.markFmc v).fmc = s.fmc ||| BitVec.twoPow 40 (v - 1) := rfl
@[simp] theorem State.markFmc_mv (s : State) (v : Nat) : (s.markFmc v).mv = s.mv := rfl
@[simp] theorem State.markFmc_mat (s : State) (v : Nat) : (s.markFmc v).mat = s.mat := rfl
@[simp] theorem State.markFmc_events (s : State) (v : Nat) : (s.markFmc v).events = s.events := rfl
@[simp] theorem State.markFmc_readData (s : State) (v : Nat) : (s.markFmc v).readData = s.readData := rfl
@[simp] theorem State.markFmc_draws (s : State) (v : Nat) : (s.markFmc v).draws = s.draws := rfl

/-! ### setMatrix -/

@[simp] theorem State.setMatrix_cfg (s : State) (v : Nat) (m : Memory) : (s.setMatrix v m).cfg = s.cfg := rfl
@[simp] theorem State.setMatrix_arg0 (s : State) (v : Nat) (m : Memory) : (s.setMatrix v m).arg0 = s.arg0 := rfl
@[simp] theorem State.setMatrix_arg1 (s : State) (v : Nat) (m : Memory) : (s.setMatrix v m).arg1 = s.arg1 := rfl
@[simp] theorem State.setMatrix_arg2 (s : State) (v : Nat) (m : Memory) : (s.setMatrix v m).arg2 = s.arg2 := rfl
@[simp] theorem State.setMatrix_res0 (s : State) (v : Nat) (m : Memory) : (s.setMatrix v m).res0 = s.res0 := rfl
@[simp] theorem State.setMatrix_res1 (s : State) (v : Nat) (m : Memory) : (s.setMatrix v m).res1 = s.res1 := rfl
@[simp] theorem State.setMatrix_busy (s : State) (v : Nat) (m : Memory) : (s.setMatrix v m).busy = s.busy := rfl
@[simp] theorem State.setMatrix_overrun (s : State) (v : Nat) (m : Memory) : (s.setMatrix v m).overrun = s.overrun := rfl
@[simp] theorem State.setMatrix_err (s : State) (v : Nat) (m : Memory) : (s.setMatrix v m).err = s.err := rfl
@[simp] theorem State.setMatrix_lastop (s : State) (v : Nat) (m : Memory) : (s.setMatrix v m).lastop = s.lastop := rfl
@[simp] theorem State.setMatrix_latch (s : State) (v : Nat) (m : Memory) : (s.setMatrix v m).latch = s.latch := rfl
@[simp] theorem State.setMatrix_b0 (s : State) (v : Nat) (m : Memory) : (s.setMatrix v m).b0 = s.b0 := rfl
@[simp] theorem State.setMatrix_b1 (s : State) (v : Nat) (m : Memory) : (s.setMatrix v m).b1 = s.b1 := rfl
@[simp] theorem State.setMatrix_pa (s : State) (v : Nat) (m : Memory) : (s.setMatrix v m).pa = s.pa := rfl
@[simp] theorem State.setMatrix_pb (s : State) (v : Nat) (m : Memory) : (s.setMatrix v m).pb = s.pb := rfl
@[simp] theorem State.setMatrix_pr (s : State) (v : Nat) (m : Memory) : (s.setMatrix v m).pr = s.pr := rfl
@[simp] theorem State.setMatrix_fmc (s : State) (v : Nat) (m : Memory) : (s.setMatrix v m).fmc = s.fmc := rfl
@[simp] theorem State.setMatrix_mv (s : State) (v : Nat) (m : Memory) : (s.setMatrix v m).mv = v := rfl
@[simp] theorem State.setMatrix_mat (s : State) (v : Nat) (m : Memory) : (s.setMatrix v m).mat = m := rfl
@[simp] theorem State.setMatrix_events (s : State) (v : Nat) (m : Memory) : (s.setMatrix v m).events = s.events := rfl
@[simp] theorem State.setMatrix_readData (s : State) (v : Nat) (m : Memory) : (s.setMatrix v m).readData = s.readData := rfl
@[simp] theorem State.setMatrix_draws (s : State) (v : Nat) (m : Memory) : (s.setMatrix v m).draws = s.draws := rfl

/-! ### complete -/

@[simp] theorem State.complete_cfg (s : State) (c : ErrCode) : (s.complete c).cfg = s.cfg := rfl
@[simp] theorem State.complete_arg0 (s : State) (c : ErrCode) : (s.complete c).arg0 = s.arg0 := rfl
@[simp] theorem State.complete_arg1 (s : State) (c : ErrCode) : (s.complete c).arg1 = s.arg1 := rfl
@[simp] theorem State.complete_arg2 (s : State) (c : ErrCode) : (s.complete c).arg2 = s.arg2 := rfl
@[simp] theorem State.complete_res0 (s : State) (c : ErrCode) : (s.complete c).res0 = s.res0 := rfl
@[simp] theorem State.complete_res1 (s : State) (c : ErrCode) : (s.complete c).res1 = s.res1 := rfl
@[simp] theorem State.complete_busy (s : State) (c : ErrCode) : (s.complete c).busy = false := rfl
@[simp] theorem State.complete_overrun (s : State) (c : ErrCode) : (s.complete c).overrun = s.overrun := rfl
@[simp] theorem State.complete_err (s : State) (c : ErrCode) : (s.complete c).err = c := rfl
@[simp] theorem State.complete_lastop (s : State) (c : ErrCode) : (s.complete c).lastop = opOf s.latch.cmd := rfl
@[simp] theorem State.complete_latch (s : State) (c : ErrCode) : (s.complete c).latch = Latch.empty := rfl
@[simp] theorem State.complete_b0 (s : State) (c : ErrCode) : (s.complete c).b0 = s.b0 := rfl
@[simp] theorem State.complete_b1 (s : State) (c : ErrCode) : (s.complete c).b1 = s.b1 := rfl
@[simp] theorem State.complete_pa (s : State) (c : ErrCode) : (s.complete c).pa = s.pa := rfl
@[simp] theorem State.complete_pb (s : State) (c : ErrCode) : (s.complete c).pb = s.pb := rfl
@[simp] theorem State.complete_pr (s : State) (c : ErrCode) : (s.complete c).pr = s.pr := rfl
@[simp] theorem State.complete_fmc (s : State) (c : ErrCode) : (s.complete c).fmc = s.fmc := rfl
@[simp] theorem State.complete_mv (s : State) (c : ErrCode) : (s.complete c).mv = s.mv := rfl
@[simp] theorem State.complete_mat (s : State) (c : ErrCode) : (s.complete c).mat = s.mat := rfl
@[simp] theorem State.complete_events (s : State) (c : ErrCode) : (s.complete c).events = s.events := rfl
@[simp] theorem State.complete_readData (s : State) (c : ErrCode) : (s.complete c).readData = s.readData := rfl
@[simp] theorem State.complete_draws (s : State) (c : ErrCode) : (s.complete c).draws = s.draws := rfl

/-! ### setBuf -/

@[simp] theorem State.setBuf_cfg (s : State) (b : BSel) (x : BitBuffer) : (s.setBuf b x).cfg = s.cfg := by cases b <;> rfl
@[simp] theorem State.setBuf_arg0 (s : State) (b : BSel) (x : BitBuffer) : (s.setBuf b x).arg0 = s.arg0 := by cases b <;> rfl
@[simp] theorem State.setBuf_arg1 (s : State) (b : BSel) (x : BitBuffer) : (s.setBuf b x).arg1 = s.arg1 := by cases b <;> rfl
@[simp] theorem State.setBuf_arg2 (s : State) (b : BSel) (x : BitBuffer) : (s.setBuf b x).arg2 = s.arg2 := by cases b <;> rfl
@[simp] theorem State.setBuf_res0 (s : State) (b : BSel) (x : BitBuffer) : (s.setBuf b x).res0 = s.res0 := by cases b <;> rfl
@[simp] theorem State.setBuf_res1 (s : State) (b : BSel) (x : BitBuffer) : (s.setBuf b x).res1 = s.res1 := by cases b <;> rfl
@[simp] theorem State.setBuf_busy (s : State) (b : BSel) (x : BitBuffer) : (s.setBuf b x).busy = s.busy := by cases b <;> rfl
@[simp] theorem State.setBuf_overrun (s : State) (b : BSel) (x : BitBuffer) : (s.setBuf b x).overrun = s.overrun := by cases b <;> rfl
@[simp] theorem State.setBuf_err (s : State) (b : BSel) (x : BitBuffer) : (s.setBuf b x).err = s.err := by cases b <;> rfl
@[simp] theorem State.setBuf_lastop (s : State) (b : BSel) (x : BitBuffer) : (s.setBuf b x).lastop = s.lastop := by cases b <;> rfl
@[simp] theorem State.setBuf_latch (s : State) (b : BSel) (x : BitBuffer) : (s.setBuf b x).latch = s.latch := by cases b <;> rfl
@[simp] theorem State.setBuf_pa (s : State) (b : BSel) (x : BitBuffer) : (s.setBuf b x).pa = s.pa := by cases b <;> rfl
@[simp] theorem State.setBuf_pb (s : State) (b : BSel) (x : BitBuffer) : (s.setBuf b x).pb = s.pb := by cases b <;> rfl
@[simp] theorem State.setBuf_pr (s : State) (b : BSel) (x : BitBuffer) : (s.setBuf b x).pr = s.pr := by cases b <;> rfl
@[simp] theorem State.setBuf_fmc (s : State) (b : BSel) (x : BitBuffer) : (s.setBuf b x).fmc = s.fmc := by cases b <;> rfl
@[simp] theorem State.setBuf_mv (s : State) (b : BSel) (x : BitBuffer) : (s.setBuf b x).mv = s.mv := by cases b <;> rfl
@[simp] theorem State.setBuf_mat (s : State) (b : BSel) (x : BitBuffer) : (s.setBuf b x).mat = s.mat := by cases b <;> rfl
@[simp] theorem State.setBuf_events (s : State) (b : BSel) (x : BitBuffer) : (s.setBuf b x).events = s.events := by cases b <;> rfl
@[simp] theorem State.setBuf_readData (s : State) (b : BSel) (x : BitBuffer) : (s.setBuf b x).readData = s.readData := by cases b <;> rfl
@[simp] theorem State.setBuf_draws (s : State) (b : BSel) (x : BitBuffer) : (s.setBuf b x).draws = s.draws := by cases b <;> rfl

@[simp] theorem State.setBuf_b0_b0 (s : State) (x : BitBuffer) : (s.setBuf .b0 x).b0 = x := rfl
@[simp] theorem State.setBuf_b0_b1 (s : State) (x : BitBuffer) : (s.setBuf .b0 x).b1 = s.b1 := rfl
@[simp] theorem State.setBuf_b1_b0 (s : State) (x : BitBuffer) : (s.setBuf .b1 x).b0 = s.b0 := rfl
@[simp] theorem State.setBuf_b1_b1 (s : State) (x : BitBuffer) : (s.setBuf .b1 x).b1 = x := rfl

/-! ### Reading a buffer or a polynomial memory after an update -/

@[simp] theorem State.buf_setBuf_same (s : State) (b : BSel) (x : BitBuffer) : (s.setBuf b x).buf b = x := by
  cases b <;> rfl

@[simp] theorem State.buf_setBuf_other (s : State) (b : BSel) (x : BitBuffer) :
    (s.setBuf b x).buf b.other = s.buf b.other := by
  cases b <;> rfl

@[simp] theorem State.buf_setBuf_of_other (s : State) (b : BSel) (x : BitBuffer) :
    (s.setBuf b.other x).buf b = s.buf b := by
  cases b <;> rfl

@[simp] theorem State.poly_setPoly_same (s : State) (p : PolySel) (x : Poly) : (s.setPoly p x).poly p = x := by
  cases p <;> rfl

theorem State.poly_setPoly_ne (s : State) (p q : PolySel) (x : Poly) (h : q ≠ p) :
    (s.setPoly p x).poly q = s.poly q := by
  cases p <;> cases q <;> first | rfl | exact absurd rfl h

@[simp] theorem State.setRes0_buf (s : State) (v : Word) (k : BSel) : (s.setRes0 v).buf k = s.buf k := by cases k <;> rfl
@[simp] theorem State.setRes1_buf (s : State) (v : Word) (k : BSel) : (s.setRes1 v).buf k = s.buf k := by cases k <;> rfl
@[simp] theorem State.setPa_buf (s : State) (p : Poly) (k : BSel) : (s.setPa p).buf k = s.buf k := by cases k <;> rfl
@[simp] theorem State.setPb_buf (s : State) (p : Poly) (k : BSel) : (s.setPb p).buf k = s.buf k := by cases k <;> rfl
@[simp] theorem State.setPr_buf (s : State) (p : Poly) (k : BSel) : (s.setPr p).buf k = s.buf k := by cases k <;> rfl
@[simp] theorem State.markFmc_buf (s : State) (v : Nat) (k : BSel) : (s.markFmc v).buf k = s.buf k := by cases k <;> rfl
@[simp] theorem State.setMatrix_buf (s : State) (v : Nat) (m : Memory) (k : BSel) : (s.setMatrix v m).buf k = s.buf k := by cases k <;> rfl
@[simp] theorem State.complete_buf (s : State) (c : ErrCode) (k : BSel) : (s.complete c).buf k = s.buf k := by cases k <;> rfl

/-! ### setPoly -/

@[simp] theorem State.setPoly_cfg (s : State) (p : PolySel) (x : Poly) : (s.setPoly p x).cfg = s.cfg := by cases p <;> rfl
@[simp] theorem State.setPoly_arg0 (s : State) (p : PolySel) (x : Poly) : (s.setPoly p x).arg0 = s.arg0 := by cases p <;> rfl
@[simp] theorem State.setPoly_arg1 (s : State) (p : PolySel) (x : Poly) : (s.setPoly p x).arg1 = s.arg1 := by cases p <;> rfl
@[simp] theorem State.setPoly_arg2 (s : State) (p : PolySel) (x : Poly) : (s.setPoly p x).arg2 = s.arg2 := by cases p <;> rfl
@[simp] theorem State.setPoly_res0 (s : State) (p : PolySel) (x : Poly) : (s.setPoly p x).res0 = s.res0 := by cases p <;> rfl
@[simp] theorem State.setPoly_res1 (s : State) (p : PolySel) (x : Poly) : (s.setPoly p x).res1 = s.res1 := by cases p <;> rfl
@[simp] theorem State.setPoly_busy (s : State) (p : PolySel) (x : Poly) : (s.setPoly p x).busy = s.busy := by cases p <;> rfl
@[simp] theorem State.setPoly_overrun (s : State) (p : PolySel) (x : Poly) : (s.setPoly p x).overrun = s.overrun := by cases p <;> rfl
@[simp] theorem State.setPoly_err (s : State) (p : PolySel) (x : Poly) : (s.setPoly p x).err = s.err := by cases p <;> rfl
@[simp] theorem State.setPoly_lastop (s : State) (p : PolySel) (x : Poly) : (s.setPoly p x).lastop = s.lastop := by cases p <;> rfl
@[simp] theorem State.setPoly_latch (s : State) (p : PolySel) (x : Poly) : (s.setPoly p x).latch = s.latch := by cases p <;> rfl
@[simp] theorem State.setPoly_b0 (s : State) (p : PolySel) (x : Poly) : (s.setPoly p x).b0 = s.b0 := by cases p <;> rfl
@[simp] theorem State.setPoly_b1 (s : State) (p : PolySel) (x : Poly) : (s.setPoly p x).b1 = s.b1 := by cases p <;> rfl
@[simp] theorem State.setPoly_fmc (s : State) (p : PolySel) (x : Poly) : (s.setPoly p x).fmc = s.fmc := by cases p <;> rfl
@[simp] theorem State.setPoly_mv (s : State) (p : PolySel) (x : Poly) : (s.setPoly p x).mv = s.mv := by cases p <;> rfl
@[simp] theorem State.setPoly_mat (s : State) (p : PolySel) (x : Poly) : (s.setPoly p x).mat = s.mat := by cases p <;> rfl
@[simp] theorem State.setPoly_events (s : State) (p : PolySel) (x : Poly) : (s.setPoly p x).events = s.events := by cases p <;> rfl
@[simp] theorem State.setPoly_readData (s : State) (p : PolySel) (x : Poly) : (s.setPoly p x).readData = s.readData := by cases p <;> rfl
@[simp] theorem State.setPoly_draws (s : State) (p : PolySel) (x : Poly) : (s.setPoly p x).draws = s.draws := by cases p <;> rfl

end Sys2Proof.Machine
end

