-- ==== Sys2Proof/Laws/Ops.lean ====
section
/-! SUPPORT. What the shared operations do, each said once: completion, the buffers' updates, and the lengths and
coefficients of the polynomial and Reed-Solomon functions. -/

namespace Sys2Proof.Machine

/-! ### Completion (60_exceptions.md R260, R261) -/

@[simp] theorem finish_ok (s t : State) : finish s (.ok t) = t.complete .ok := rfl

@[simp] theorem finish_error (s : State) (e : ErrCode) : finish s (.error e) = s.complete e := rfl

theorem done_eq (s : State) (r : Effect) : done s r = .next (finish s r) := rfl

/-- A command's outcome is a success with its writes committed, or a failure that changes nothing but the completion
record. -/
theorem done_cases (s t : State) (r : Effect) (h : done s r = .next t) :
    (∃ u, r = .ok u ∧ t = u.complete .ok) ∨ (∃ e, r = .error e ∧ t = s.complete e) := by
  cases r with
  | ok u => exact .inl ⟨u, rfl, by simpa [done_eq] using h.symm⟩
  | error e => exact .inr ⟨e, rfl, by simpa [done_eq] using h.symm⟩

/-- Every command's meaning is completion over some outcome of its own. -/
theorem exec_eq_done (i : Instr) (s : State) : ∃ r : Effect, exec i s = done s r := by
  cases i <;> exact ⟨_, rfl⟩

/-! ### The step -/

/-- With no event waiting, a step is the engine's turn. -/
theorem step_of_no_event (s : State) (h : s.events = []) : step s = engineTurn s := by
  simp [step, h]

/-- A step takes the first waiting event. -/
theorem step_of_event (s : State) (e : Event) (rest : List Event) (h : s.events = e :: rest) :
    step s = perform e { s with events := rest } := by
  simp [step, h]

/-- The engine's turn: idle, the execution of the decoded command, or an illegal word's completion. -/
theorem engineTurn_cases (s : State) :
    (s.busy = false ∧ engineTurn s = .next s) ∨
    (s.busy = true ∧ ∃ i, decode s.latch.cmd = .ok i ∧ engineTurn s = exec i s) ∨
    (s.busy = true ∧ ∃ e, decode s.latch.cmd = .error e ∧ engineTurn s = .next (s.complete .illegalCommand)) := by
  unfold engineTurn
  cases hb : s.busy
  · exact .inl ⟨rfl, rfl⟩
  · cases hd : decode s.latch.cmd with
    | ok i => exact .inr (.inl ⟨rfl, i, rfl, rfl⟩)
    | error e => exact .inr (.inr ⟨rfl, e, rfl, rfl⟩)

/-! ### Bit buffers -/

@[simp] theorem BitBuffer.writeValue_count (x : BitBuffer) (p : Nat) (v : Word) (n : Nat) :
    (x.writeValue p v n).count = max x.count (p + n) := rfl

/-- The bits of a buffer after a value is written into it (41_bitbuffer.md R112, R120). -/
theorem BitBuffer.readBit_writeValue (x : BitBuffer) (p : Nat) (v : Word) (n i : Nat) :
    (x.writeValue p v n).bits.readBit i =
      if p ≤ i ∧ i < p + n then v.getLsbD (n - 1 - (i - p)) else x.bits.readBit i := by
  simp only [BitBuffer.writeValue, Memory.readBit_writeBits, length_msbFirst]
  split
  · rw [getD_msbFirst _ _ _ (by omega)]
  · rfl

theorem BitBuffer.length_codewords (x : BitBuffer) (n : Nat) : (x.codewords n).length = n := by
  simp [BitBuffer.codewords]

/-- The bits of a buffer filled with bytes, most significant bit of each byte first (44_rs_encoder.md R195). -/
theorem BitBuffer.readBit_ofBytes (out : List Byte) (i : Nat) :
    (BitBuffer.ofBytes out).bits.readBit i = (out.getD (i / 8) 0).getLsbD (7 - i % 8) := by
  simp only [BitBuffer.ofBytes, Memory.readBit_writeBytes, Memory.readBit_nil, Nat.zero_le, true_and, Nat.zero_add,
    Nat.sub_zero]
  split
  · rfl
  · rw [List.getD_eq_default _ _ (by omega)]; simp

/-! ### Polynomials -/

@[simp] theorem Poly.len_load (p : Poly) (cs : List Byte) : (p.load cs).len = cs.length := rfl

/-- The coefficients of a memory after a load: the loaded ones, and beyond them the old (43_gf_poly.md R165 to R169). -/
theorem Poly.read_load (p : Poly) (cs : List Byte) (i : Nat) :
    (p.load cs).coef.read i = if i < cs.length then cs.getD i 0 else p.coef.read i := by
  simp [Poly.load, Memory.read_writeBytes]

@[simp] theorem Poly.length_coeffs (p : Poly) : p.coeffs.length = p.len := by
  simp [Poly.coeffs, Memory.length_readBytes]

theorem length_polyAdd (p q : List Byte) : (polyAdd p q).length = max p.length q.length := by
  simp [polyAdd]

theorem length_polyMul (p q : List Byte) (hp : p.length ≠ 0) (hq : q.length ≠ 0) :
    (polyMul p q).length = p.length + q.length - 1 := by
  simp only [polyMul]
  rw [if_neg (by omega)]
  simp

theorem polyMul_empty (p q : List Byte) (h : p.length = 0 ∨ q.length = 0) : polyMul p q = [] := if_pos h

theorem length_subScaled (c : Byte) (r b : List Byte) : (subScaled c r b).length = r.length := by
  induction r generalizing b with
  | nil => cases b <;> rfl
  | cons x r ih => cases b with
    | nil => rfl
    | cons y b => simp [subScaled, ih]

theorem length_divSteps (t : List Byte) (n : Nat) (r : List Byte) : (divSteps t n r).length = r.length := by
  induction n generalizing r with
  | zero => rfl
  | succ n ih =>
    cases r with
    | nil => rfl
    | cons c r =>
      simp only [divSteps, List.length_cons, ih]
      split <;> simp [length_subScaled]

theorem length_polyDiv (p q : List Byte) : (polyDiv p q).length = p.length + (q.length - 1) := by
  simp [polyDiv, length_divSteps]

theorem length_blockEc (g b : List Byte) : (blockEc g b).length = g.length - 1 := by
  simp [blockEc, length_polyDiv]

end Sys2Proof.Machine
end

