-- ==== Sys2Proof/Laws/PerInstr.lean ====
section
/-! SUPPORT. A fact of every instruction as syntax, one lemma per constructor: its word is legal in form (30_encoding.md
R80, R82, R85). -/

namespace Sys2Proof.Laws.EncodingLegal

/-- The word of an instruction has its opcode in CMD[7:0], zeros in CMD[31:9], and BSEL = 1 only on a command that takes
BSEL. -/
def Statement (i : Instr) : Prop :=
  opOf (encode i) = opcode i ∧ rsvOf (encode i) = 0 ∧ (bselField i = none → bselOf (encode i) = false)

theorem nop : Statement .nop := ⟨rfl, rfl, fun _ => rfl⟩
theorem bbClear (b : BSel) : Statement (.bbClear b) := by cases b <;> exact ⟨rfl, rfl, fun h => nomatch h⟩
theorem bbWrite (b : BSel) : Statement (.bbWrite b) := by cases b <;> exact ⟨rfl, rfl, fun h => nomatch h⟩
theorem bbRead (b : BSel) : Statement (.bbRead b) := by cases b <;> exact ⟨rfl, rfl, fun h => nomatch h⟩
theorem bbGetbit (b : BSel) : Statement (.bbGetbit b) := by cases b <;> exact ⟨rfl, rfl, fun h => nomatch h⟩
theorem bbSetbit (b : BSel) : Statement (.bbSetbit b) := by cases b <;> exact ⟨rfl, rfl, fun h => nomatch h⟩
theorem bbCount (b : BSel) : Statement (.bbCount b) := by cases b <;> exact ⟨rfl, rfl, fun h => nomatch h⟩
theorem bbRdbyte (b : BSel) : Statement (.bbRdbyte b) := by cases b <;> exact ⟨rfl, rfl, fun h => nomatch h⟩
theorem bbEqual : Statement .bbEqual := ⟨rfl, rfl, fun _ => rfl⟩
theorem gfAdd : Statement .gfAdd := ⟨rfl, rfl, fun _ => rfl⟩
theorem gfMul : Statement .gfMul := ⟨rfl, rfl, fun _ => rfl⟩
theorem gfDiv : Statement .gfDiv := ⟨rfl, rfl, fun _ => rfl⟩
theorem gfPow : Statement .gfPow := ⟨rfl, rfl, fun _ => rfl⟩
theorem gfExp : Statement .gfExp := ⟨rfl, rfl, fun _ => rfl⟩
theorem gfLog : Statement .gfLog := ⟨rfl, rfl, fun _ => rfl⟩
theorem plSetlen : Statement .plSetlen := ⟨rfl, rfl, fun _ => rfl⟩
theorem plWrite : Statement .plWrite := ⟨rfl, rfl, fun _ => rfl⟩
theorem plRead : Statement .plRead := ⟨rfl, rfl, fun _ => rfl⟩
theorem plGetlen : Statement .plGetlen := ⟨rfl, rfl, fun _ => rfl⟩
theorem plAdd : Statement .plAdd := ⟨rfl, rfl, fun _ => rfl⟩
theorem plMul : Statement .plMul := ⟨rfl, rfl, fun _ => rfl⟩
theorem plDiv : Statement .plDiv := ⟨rfl, rfl, fun _ => rfl⟩
theorem plGen : Statement .plGen := ⟨rfl, rfl, fun _ => rfl⟩
theorem plMovra : Statement .plMovra := ⟨rfl, rfl, fun _ => rfl⟩
theorem rsEncode (b : BSel) : Statement (.rsEncode b) := by cases b <;> exact ⟨rfl, rfl, fun h => nomatch h⟩
theorem fmLoad : Statement .fmLoad := ⟨rfl, rfl, fun _ => rfl⟩
theorem fmQuery : Statement .fmQuery := ⟨rfl, rfl, fun _ => rfl⟩
theorem fmRowcnt : Statement .fmRowcnt := ⟨rfl, rfl, fun _ => rfl⟩
theorem fmRowrange : Statement .fmRowrange := ⟨rfl, rfl, fun _ => rfl⟩
theorem matInit : Statement .matInit := ⟨rfl, rfl, fun _ => rfl⟩
theorem matRead : Statement .matRead := ⟨rfl, rfl, fun _ => rfl⟩
theorem matWrite : Statement .matWrite := ⟨rfl, rfl, fun _ => rfl⟩
theorem place (b : BSel) : Statement (.place b) := by cases b <;> exact ⟨rfl, rfl, fun h => nomatch h⟩

end Sys2Proof.Laws.EncodingLegal
end

