-- ==== Sys2Proof/Tests/Slice0.lean ====
section
/-! SUPPORT. Tests of the model against the spec's own words and vectors (95_test_vectors.md unless another file is
named), the well-formedness smoke tests, and a witness for the hypotheses of every statement that has some. -/

namespace Sys2Proof.Tests

-- One thread: the kernel evaluations below are many, and each waiting one would hold a thread's stack.
set_option Elab.async false

open Sys2Proof Sys2Proof.Machine Sys2Proof.Rules

/-- A state with a command pending, otherwise as after reset. -/
def pend (cmd a0 a1 a2 : Word) : State :=
  { State.reset with busy := true, latch := ⟨cmd, a0, a1, a2⟩ }

/-- The next state of a result, if there is one. -/
def ran : Result → Option State
  | .next t => some t
  | .fault _ => none
  | .refused _ => none

/-- The bit buffer 1011111 of 95_test_vectors.md. -/
def buf7 : BitBuffer := ⟨7, [(0, 0xBE#8)]⟩

/-- A state with B0 = 1011111 and a command pending. -/
def with7 (cmd a0 a1 a2 : Word) : State := { pend cmd a0 a1 a2 with b0 := buf7 }

/-! ### Well-formedness -/

theorem test_wf_line_accepted : AsmLine.wellFormed ⟨.bbSetbit .b0, some 1, some 1, none⟩ = true := by decide
theorem test_wf_line_arg1_without_arg0 : AsmLine.wellFormed ⟨.gfExp, none, some 1, none⟩ = false := by decide
theorem test_wf_line_arg2_without_arg1 : AsmLine.wellFormed ⟨.plWrite, some 0, none, some 1⟩ = false := by decide
theorem test_wf_config_default : Config.default.wellFormed = true := by decide
theorem test_wf_config_small_capacity : Config.wellFormed ⟨29647, 0, .little⟩ = false := by decide
theorem test_wf_config_capacity_too_wide : Config.wellFormed ⟨2 ^ 32, 0, .big⟩ = false := by decide
theorem test_wf_config_base_unaligned : Config.wellFormed ⟨29648, 32, .little⟩ = false := by decide
theorem test_wf_access_halfword : accessDefined 16 0x04 = false := by decide
theorem test_wf_access_unaligned : accessDefined 32 0x05 = false := by decide

/-! ### Decoding: every constructor's word, written from 30_encoding.md R85 -/

theorem test_decode_control : decode 0b00000000000000000000000000000000#32 = .ok .nop := by decide
theorem test_decode_bits_b0 :
    [0x10#32, 0x11#32, 0x12#32, 0x13#32, 0x14#32, 0x15#32, 0x16#32, 0x17#32].map (fun w => (decode w).toOption) =
      [some (.bbClear .b0), some (.bbWrite .b0), some (.bbRead .b0), some (.bbGetbit .b0), some (.bbSetbit .b0),
       some (.bbCount .b0), some (.bbRdbyte .b0), some .bbEqual] := by decide
theorem test_decode_bits_b1 :
    [0x110#32, 0x111#32, 0x112#32, 0x113#32, 0x114#32, 0x115#32, 0x116#32, 0x117#32].map (fun w => (decode w).toOption) =
      [some (.bbClear .b1), some (.bbWrite .b1), some (.bbRead .b1), some (.bbGetbit .b1), some (.bbSetbit .b1),
       some (.bbCount .b1), some (.bbRdbyte .b1), none] := by decide
theorem test_decode_gf :
    [0x20#32, 0x21#32, 0x22#32, 0x23#32, 0x24#32, 0x25#32].map (fun w => (decode w).toOption) =
      [some .gfAdd, some .gfMul, some .gfDiv, some .gfPow, some .gfExp, some .gfLog] := by decide
theorem test_decode_pl :
    [0x30#32, 0x31#32, 0x32#32, 0x33#32, 0x34#32, 0x35#32, 0x36#32, 0x37#32, 0x38#32].map
        (fun w => (decode w).toOption) =
      [some .plSetlen, some .plWrite, some .plRead, some .plGetlen, some .plAdd, some .plMul, some .plDiv, some .plGen,
       some .plMovra] := by decide
theorem test_decode_rs_place :
    [0x40#32, 0x140#32, 0x63#32, 0x163#32].map (fun w => (decode w).toOption) =
      [some (.rsEncode .b0), some (.rsEncode .b1), some (.place .b0), some (.place .b1)] := by decide
theorem test_decode_fm_mat :
    [0x50#32, 0x51#32, 0x52#32, 0x53#32, 0x60#32, 0x61#32, 0x62#32].map (fun w => (decode w).toOption) =
      [some .fmLoad, some .fmQuery, some .fmRowcnt, some .fmRowrange, some .matInit, some .matRead, some .matWrite] := by
  decide
theorem test_decode_illegal :
    [0x120#32, 0x117#32, 0x200#32, 0x80000021#32, 0x18#32, 0xFF#32, 0x39#32, 0x64#32].map
        (fun w => (decode w).toOption) = List.replicate 8 none := by decide
theorem test_encode_rs_b1 : encode (.rsEncode .b1) = 0x00000140#32 := by decide
theorem test_table_word : decodeTableWord 32 0x111 = some (.bbWrite .b1) := by decide

/-! ### One step of each command -/

theorem test_nop_clears_err :
    (ran (exec .nop { pend 0 0 0 0 with err := .outOfRange, lastop := 0x12 })).map (·.statusWord) = some 0 := by decide
theorem test_nop_keeps_overrun :
    (ran (exec .nop { pend 0 0 0 0 with overrun := true })).map (·.statusWord) = some 2 := by decide
theorem test_bbClear : (ran (exec (.bbClear .b0) (with7 0x10 0 0 0))).map (·.b0) = some BitBuffer.empty := by decide
theorem test_bbWrite_overwrite :
    (ran (exec (.bbWrite .b0) (with7 0x11 2 0 2))).map (·.b0) = some ⟨7, [(0, 0x8E#8)]⟩ := by decide +kernel
theorem test_bbWrite_capacity :
    (ran (exec (.bbWrite .b0) (pend 0x11 32760 0 9))).map (·.err) = some .capacityExceeded := by decide +kernel
theorem test_bbRead : (ran (exec (.bbRead .b0) (with7 0x12 1 3 0))).map (·.res0) = some 3 := by decide +kernel
theorem test_bbRead_past_count :
    (ran (exec (.bbRead .b0) (with7 0x12 5 3 0))).map (·.err) = some .outOfRange := by decide +kernel
theorem test_bbGetbit : (ran (exec (.bbGetbit .b0) (with7 0x13 1 0 0))).map (·.res0) = some 0 := by decide +kernel
theorem test_bbGetbit_bound :
    (ran (exec (.bbGetbit .b0) (with7 0x13 7 0 0))).map (·.err) = some .outOfRange := by decide +kernel
theorem test_bbSetbit : (ran (exec (.bbSetbit .b0) (with7 0x14 1 1 0))).map (·.b0) = some ⟨7, [(0, 0xFE#8)]⟩ := by
  decide +kernel
theorem test_bbSetbit_bit0_only : (ran (exec (.bbSetbit .b0) (with7 0x14 1 2 0))).map (·.b0) = some buf7 := by
  decide +kernel
theorem test_bbCount :
    (ran (exec (.bbCount .b0) (with7 0x15 0 0 0))).map (fun t => (t.res0, t.res1)) = some (7, 1) := by decide +kernel
theorem test_bbRdbyte : (ran (exec (.bbRdbyte .b0) (with7 0x16 0 0 0))).map (·.res0) = some 0xBE := by decide +kernel
theorem test_bbEqual_counts_differ :
    (ran (exec .bbEqual { pend 0x17 0 0 0 with b0 := ⟨4, [(0, 0xB0#8)]⟩, b1 := ⟨5, [(0, 0xB0#8)]⟩ })).map (·.res0) =
      some 0 := by decide +kernel
theorem test_bbEqual_empty : (ran (exec .bbEqual (pend 0x17 0 0 0))).map (·.res0) = some 1 := by decide +kernel

theorem test_gfAdd : (ran (exec .gfAdd (pend 0x20 0x1FF 0xFF 0))).map (·.res0) = some 0 := by decide +kernel
theorem test_gfMul : (ran (exec .gfMul (pend 0x21 0xFF 0xFF 0))).map (·.res0) = some 0xE2 := by decide +kernel
theorem test_gfMul_zero : (ran (exec .gfMul (pend 0x21 0 0x37 0))).map (·.res0) = some 0 := by decide +kernel
theorem test_gfDiv : (ran (exec .gfDiv (pend 0x22 0x53 0xCA 0))).map (·.res0) = some 0x6D := by decide +kernel
theorem test_gfDiv_low_byte_zero :
    (ran (exec .gfDiv (pend 0x22 5 0x100 0))).map (·.err) = some .divideByZero := by decide +kernel
theorem test_gfPow : (ran (exec .gfPow (pend 0x23 3 256 0))).map (·.res0) = some 3 := by decide +kernel
theorem test_gfPow_zero_zero : (ran (exec .gfPow (pend 0x23 0 0 0))).map (·.res0) = some 1 := by decide +kernel
theorem test_gfExp_last : (ran (exec .gfExp (pend 0x24 509 0 0))).map (·.res0) = some 0x8E := by decide +kernel
theorem test_gfExp_bound : (ran (exec .gfExp (pend 0x24 511 0 0))).map (·.err) = some .outOfRange := by decide +kernel
theorem test_gfLog : (ran (exec .gfLog (pend 0x25 0x53 0 0))).map (·.res0) = some 206 := by decide +kernel
theorem test_gfLog_zero : (ran (exec .gfLog (pend 0x25 0x100 0 0))).map (·.err) = some .outOfRange := by decide +kernel

/-- Polynomial memories for the tests. -/
def polys (a b : List Byte) (cmd a0 a1 a2 : Word) : State :=
  { pend cmd a0 a1 a2 with pa := Poly.empty.load a, pb := Poly.empty.load b }

theorem test_plSetlen : (ran (exec .plSetlen (pend 0x30 1 2 0))).map (·.pb.len) = some 2 := by decide +kernel
theorem test_plSetlen_pr : (ran (exec .plSetlen (pend 0x30 2 3 0))).map (·.err) = some .invalidArgument := by
  decide +kernel
theorem test_plWrite : (ran (exec .plWrite (pend 0x31 0 5 0x177))).map (·.pa) = some ⟨0, [(5, 0x77#8)]⟩ := by
  decide +kernel
theorem test_plWrite_bound : (ran (exec .plWrite (pend 0x31 0 256 1))).map (·.err) = some .outOfRange := by decide +kernel
theorem test_plRead_selector_first :
    (ran (exec .plRead (pend 0x32 3 0 0))).map (·.err) = some .invalidArgument := by decide +kernel
theorem test_plRead : (ran (exec .plRead (polys [] [1, 0x7F] 0x32 1 1 0))).map (·.res0) = some 0x7F := by decide +kernel
theorem test_plGetlen : (ran (exec .plGetlen (polys [] [1, 2, 3] 0x33 1 0 0))).map (·.res0) = some 3 := by
  decide +kernel
theorem test_plAdd : (ran (exec .plAdd (polys [1, 2, 3] [5, 6] 0x34 0 0 0))).map (·.pr) =
    some (Poly.empty.load [1, 7, 5]) := by decide +kernel
theorem test_plMul : (ran (exec .plMul (polys [1, 2] [1, 3] 0x35 0 0 0))).map (·.pr) =
    some (Poly.empty.load [1, 1, 6]) := by decide +kernel
theorem test_plDiv : (ran (exec .plDiv (polys [0x12, 0x34, 0x56] [1, 7, 14, 8] 0x36 0 0 0))).map
    (fun t => (t.pr, t.res0, t.res1)) =
    some (Poly.empty.load [0x12, 0x4A, 0x41, 0x81, 0xC3, 0x32], 3, 3) := by decide +kernel
theorem test_plDiv_not_monic : (ran (exec .plDiv (polys [1, 2, 3] [2, 1] 0x36 0 0 0))).map (fun t => t.pr.coeffs) =
    some [1, 3, 0, 0] := by decide +kernel
theorem test_plGen : (ran (exec .plGen (pend 0x37 7 0 0))).map (·.pb) =
    some (Poly.empty.load [0x01, 0x7F, 0x7A, 0x9A, 0xA4, 0x0B, 0x44, 0x75]) := by decide +kernel
theorem test_plGen_unsupported : (ran (exec .plGen (pend 0x37 8 0 0))).map (·.err) = some .notSupported := by
  decide +kernel
theorem test_plMovra : (ran (exec .plMovra { pend 0x38 0 0 0 with pr := Poly.empty.load [1, 1, 6] })).map (·.pa) =
    some (Poly.empty.load [1, 1, 6]) := by decide +kernel
theorem test_plMovra_too_long :
    (ran (exec .plMovra { pend 0x38 0 0 0 with pr := ⟨511, []⟩ })).map (·.err) = some .outOfRange := by decide +kernel

theorem test_rsEncode_two_groups :
    (ran (exec (.rsEncode .b0) { pend 0x40 7 0x202 0x301 with b0 := .ofBytes [1, 2, 3, 4, 5, 6, 7] })).map
      (fun t => (t.b1, t.res0, t.res1)) =
    some (.ofBytes [0x01, 0x03, 0x05, 0x02, 0x04, 0x06, 0x07, 0x75, 0x61, 0xE8, 0x01, 0xF7, 0x29, 0x7E, 0xAB, 0x42, 0x95,
      0xF7, 0xA2, 0x0C, 0x02, 0xE1, 0xAA, 0x6B, 0x60, 0x3A, 0xA4, 0xA4], 28, 3) := by decide +kernel
theorem test_rsEncode_length_mismatch :
    (ran (exec (.rsEncode .b0) { pend 0x40 17 0x901 0 with b0 := .ofBytes [1, 2, 3, 4, 5, 6, 7, 8] })).map (·.err) =
      some .invalidArgument := by decide +kernel

theorem test_fmLoad : (ran (exec .fmLoad (pend 0x50 1 0 0))).map (fun t => (t.res0, t.res1, t.fmc)) =
    some (208, 26, 1) := by decide +kernel
theorem test_fmLoad_bound : (ran (exec .fmLoad (pend 0x50 41 0 0))).map (fun t => (t.err, t.fmc)) =
    some (.outOfRange, 0) := by decide +kernel
theorem test_fmQuery_alignment : (ran (exec .fmQuery (pend 0x51 7 20 22))).map (·.res0) = some 1 := by decide +kernel
theorem test_fmQuery_beside : (ran (exec .fmQuery (pend 0x51 7 19 22))).map (·.res0) = some 0 := by decide +kernel
theorem test_fmRowcnt : (ran (exec .fmRowcnt (pend 0x52 7 20 0))).map (·.res0) = some 4 := by decide +kernel
theorem test_fmRowrange : (ran (exec .fmRowrange (pend 0x53 2 16 2))).map (fun t => (t.res0, t.res1)) =
    some (21, 4) := by decide +kernel
theorem test_fmRowrange_bound : (ran (exec .fmRowrange (pend 0x53 1 9 2))).map (·.err) = some .outOfRange := by
  decide +kernel

theorem test_matInit : (ran (exec .matInit { pend 0x60 2 0 0 with mat := [(5, 1#8)] })).map (fun t => (t.mv, t.mat)) =
    some (2, []) := by decide +kernel
theorem test_matRead_no_matrix : (ran (exec .matRead (pend 0x61 0 0 0))).map (·.err) = some .invalidArgument := by
  decide +kernel
theorem test_matRead_column_row :
    (ran (exec .matRead { pend 0x61 11 0 0 with mv := 1, mat := Memory.writeBit [] (cellIndex 11 0) true })).map (·.res0) =
      some 1 := by decide +kernel
theorem test_matWrite : (ran (exec .matWrite { pend 0x62 0 0 1 with mv := 1 })).map (fun t => (t.cell 0 0, t.cell 0 1)) =
    some (true, false) := by decide +kernel
theorem test_matWrite_bit0_only : (ran (exec .matWrite { pend 0x62 3 3 2 with mv := 1 })).map (fun t => t.cell 3 3) =
    some false := by decide +kernel
theorem test_place :
    (ran (exec (.place .b1) { pend 0x163 0 0 0 with mv := 1, b1 := .ofBytes (0x10 :: List.replicate 24 0 ++ [0x55]) })).map
      (fun t => [t.cell 19 19, t.cell 20 20, t.cell 0 12, t.cell 1 12, decide (t.res0 = 208 ∧ t.res1 = 0 ∧ t.fmc = 1)]) =
    some [true, false, true, false, true] := by decide +kernel
theorem test_place_wrong_count :
    (ran (exec (.place .b1) { pend 0x163 0 0 0 with mv := 1, b1 := ⟨200, []⟩ })).map (·.err) =
      some .invalidArgument := by decide +kernel

/-! ### The window, one access each -/

/-- A reset state with one event waiting. -/
def wait (e : Event) : State := { State.reset with events := [e] }

theorem test_read_id : (ran (step (wait (.hostRead 32 0x1C)))).map (·.readData) = some 0x51534501 := by decide +kernel
theorem test_read_offset_wraps : (ran (step (wait (.hostRead 32 0x5C)))).map (·.readData) = some 0x51534501 := by
  decide +kernel
theorem test_read_cap : (ran (step (wait (.hostRead 32 0x28)))).map (·.readData) = some 32768 := by decide +kernel
theorem test_halfword_write_ignored : (ran (step (wait (.hostWrite 16 0x04 7)))).map (·.arg0) = some 0 := by
  decide +kernel
theorem test_second_command_dropped :
    (ran (step { pend 0x21 3 7 0 with events := [.hostWrite 32 0 0x20] })).map (fun t => (t.overrun, t.latch.cmd)) =
      some (true, 0x21) := by decide +kernel
theorem test_illegal_word :
    (ran (step (pend 0x120 0 0 0))).map (·.statusWord) = some 0x2010 := by decide +kernel
theorem test_fetch_word_runs :
    (ran (step ({ State.reset with arg0 := 3, arg1 := 7 }.withFetchWord 32 0x21))).map (fun t => (t.res0, t.statusWord)) =
      some (9, 0x2100) := by decide +kernel

/-! ### The canonical form -/

theorem test_reset_memories_canonical :
    State.reset.b0.bits.wf ∧ State.reset.b1.bits.wf ∧ State.reset.pa.coef.wf ∧ State.reset.pb.coef.wf ∧
      State.reset.pr.coef.wf ∧ State.reset.mat.wf := by decide
theorem test_writing_zero_removes_entry : Memory.write [(3, 1#8), (5, 2#8)] 3 0 = [(5, 2#8)] := by decide

/-! ### Witnesses: for each statement with hypotheses, states and operands that meet them -/

/-- A state in the middle of work: a matrix, bits in B0, a command pending. -/
def midway : State := { with7 0x21 3 7 0 with mv := 1, events := [.hostRead 32 0x18] }

theorem witness_DecodeThenEncode : ∃ w i, decode w = .ok i := ⟨0x111#32, .bbWrite .b1, rfl⟩

theorem witness_IllegalWordCompletes :
    IllegalWord 0x200#32 ∧ IllegalWord 0x18#32 ∧ IllegalWord 0x120#32 ∧ ¬ IllegalWord 0x111#32 ∧
      State.reset.busy = false ∧ (pend 0x120 0 0 0).busy = true ∧ IllegalWord (pend 0x120 0 0 0).latch.cmd ∧
      (pend 0x120 0 0 0).events = [] := by
  unfold IllegalWord; decide

theorem witness_StepRunsDecodedCommand :
    (∃ s : State, s.busy = true ∧ decode s.latch.cmd = .ok .gfMul ∧ s.events = []) ∧
    (∃ s : State, s.busy = true ∧ decode s.latch.cmd = .ok .gfMul ∧ s.events = [.engineTurn, .hostRead 32 0]) :=
  ⟨⟨pend 0x21 3 7 0, rfl, rfl, rfl⟩, ⟨{ pend 0x21 3 7 0 with events := [.engineTurn, .hostRead 32 0] }, rfl, rfl, rfl⟩⟩

theorem witness_UnnamedArgsNotRead :
    ∃ (s : State) (v2 : Word), v2 ≠ s.latch.a2 ∧ (readsArgs .gfMul).2.2 = false ∧
      (readsArgs (.place .b0)).1 = false :=
  ⟨pend 0x21 3 7 0, 9, by decide, rfl, rfl⟩

theorem witness_StepKeepsInvariant : midway.Inv ∧ ∃ t, step midway = .next t := by
  refine ⟨⟨by decide, fun h => by simp [midway, with7, pend] at h, ⟨by decide, by decide, ?_⟩, ⟨by decide, by decide, ?_⟩,
    ⟨by decide, by decide, ?_⟩, ⟨by decide, by decide, ?_⟩, ⟨by decide, by decide, ?_⟩, ⟨by decide, by decide, ?_⟩⟩, _, rfl⟩
  · intro i hi
    have hi : 7 ≤ i := hi
    by_cases h : i = 7
    · subst h; decide
    · have : i / 8 ≠ 0 := by omega
      show (Memory.read [(0, 0xBE#8)] (i / 8)).getLsbD (7 - i % 8) = false
      simp only [Memory.read]
      rw [if_neg (Ne.symm this)]; simp
  · intro i _; exact Memory.readBit_nil i
  all_goals first
    | exact fun c hc => absurd hc List.not_mem_nil
    | (intro x y _ h; simp [midway, with7, pend, State.reset, State.resetWith] at h)

theorem witness_ResetHasInvariant : Config.wellFormed ⟨29648, 64, .big⟩ = true := by decide

theorem witness_ResetValues : ∃ s : State, s.busy = true ∧ s.mv = 1 ∧ s.events = .platformReset :: [] :=
  ⟨{ midway with events := [.platformReset] }, rfl, rfl, rfl⟩

theorem witness_FailedCommandHasNoEffect :
    ∃ t, exec .gfDiv (pend 0x22 5 0 0) = .next t ∧ t.err ≠ .ok := ⟨_, rfl, by decide⟩

theorem witness_CommandFrame :
    (∃ t, exec .gfAdd midway = .next t) ∧ (writesRes .gfAdd).2 = false ∧ writesBuf .gfAdd ≠ some .b0 ∧
      (writesRes (.bbSetbit .b0)).1 = false :=
  ⟨⟨_, rfl⟩, rfl, by decide, rfl⟩

theorem witness_ConfigurationDependence :
    ∃ t u, exec (.bbWrite .b0) (pend 0x11 0 5 3) = .next t ∧
      exec (.bbWrite .b0) { pend 0x11 0 5 3 with cfg := ⟨29648, 0, .big⟩ } = .next u ∧
      t.err ≠ .capacityExceeded ∧ u.err ≠ .capacityExceeded :=
  ⟨_, _, rfl, rfl, by decide +kernel, by decide +kernel⟩

theorem witness_CommandAcceptance :
    (∃ s : State, s.busy = false ∧ s.events = [.hostWrite 32 0 0x21]) ∧
    (∃ s : State, s.busy = true ∧ s.events = [.hostWrite 32 0 0x21]) :=
  ⟨⟨wait (.hostWrite 32 0 0x21), rfl, rfl⟩, ⟨{ midway with events := [.hostWrite 32 0 0x21] }, rfl, rfl⟩⟩

theorem witness_ArgRegisters :
    (wait (.hostWrite 32 0x04 1)).events = .hostWrite 32 0x04 1 :: [] ∧
    (wait (.hostWrite 32 0x08 1)).events = .hostWrite 32 0x08 1 :: [] ∧
    (wait (.hostWrite 32 0x0C 1)).events = .hostWrite 32 0x0C 1 :: [] ∧
    (wait (.hostRead 32 0x04)).events = .hostRead 32 0x04 :: [] ∧
    (wait (.hostRead 32 0x08)).events = .hostRead 32 0x08 :: [] ∧
    (wait (.hostRead 32 0x0C)).events = .hostRead 32 0x0C :: [] ∧
    (wait (.hostWrite 32 0 0x21)).events = .hostWrite 32 0 0x21 :: [] ∧ (wait (.hostWrite 32 0 0x21)).busy = false := by
  decide

theorem witness_OverrunFlag :
    (∃ s t : State, s.events = .hostWrite 32 0x18 2 :: [] ∧ (2#32).getLsbD 1 = true ∧ step s = .next t ∧
      t.overrun ≠ s.overrun) ∧
    (∃ s t : State, s.events = .hostWrite 32 0 0x21 :: [] ∧ s.busy = true ∧ step s = .next t ∧ t.overrun ≠ s.overrun) ∧
    (∃ s t : State, s.events = .platformReset :: [] ∧ step s = .next t ∧ t.overrun ≠ s.overrun) ∧
    (wait (.hostWrite 32 0x18 1)).events = .hostWrite 32 0x18 1 :: [] ∧ (1#32).getLsbD 1 = false ∧
    (∃ t, exec .nop midway = .next t) :=
  ⟨⟨{ midway with overrun := true, events := [.hostWrite 32 0x18 2] }, _, rfl, by decide, rfl, by decide⟩,
   ⟨{ midway with events := [.hostWrite 32 0 0x21] }, _, rfl, rfl, rfl, by decide⟩,
   ⟨{ midway with overrun := true, events := [.platformReset] }, _, rfl, rfl, by decide⟩, rfl, by decide, ⟨_, rfl⟩⟩

theorem witness_ReadOnlyRegisters :
    (wait (.hostWrite 32 0x10 1)).events = .hostWrite 32 0x10 1 :: [] ∧
    (wait (.hostWrite 32 0x3C 1)).events = .hostWrite 32 0x3C 1 :: [] ∧
    (wait (.hostRead 32 0x38)).events = .hostRead 32 0x38 :: [] := by decide

theorem witness_UndefinedAccesses :
    (16 ≠ 32 ∨ 0x04 % 4 ≠ 0) ∧ (32 ≠ 32 ∨ 0x05 % 4 ≠ 0) ∧
    (wait (.hostWrite 16 0x04 1)).events = .hostWrite 16 0x04 1 :: [] ∧
    (wait (.hostRead 32 0x05)).events = .hostRead 32 0x05 :: [] := by decide

theorem witness_HostAccessSideEffects :
    midway.events = .hostRead 32 0x18 :: [] ∧ (wait (.hostWrite 32 0x44 1)).events = .hostWrite 32 0x44 1 :: [] ∧
    0x44 % 64 ≠ 0x00 ∧ ¬ (0x44 % 64 = 0x18 ∧ (1#32).getLsbD 1 = true) := by decide

theorem witness_WindowReadsWhenIdle :
    (wait (.hostRead 32 0x2C)).busy = false ∧ 0x2C % 4 = 0 ∧
    (wait (.hostRead 32 0x2C)).events = .hostRead 32 0x2C :: [] ∧
    (wait (.hostRead 32 0x7C)).events = .hostRead 32 0x7C :: [] ∧ 0x7C % 64 = 0x3C := by decide

theorem witness_ReadsWhileBusy :
    midway.busy = true ∧ ({ midway with events := [.hostRead 32 0x20] } : State).events = .hostRead 32 0x20 :: [] ∧
    ({ midway with events := [.hostRead 32 0x34] } : State).events = .hostRead 32 0x34 :: [] ∧
    midway.events = .hostRead 32 0x18 :: [] := by decide

theorem witness_StatusLayout : (wait (.hostWrite 32 0x18 2)).events = .hostWrite 32 0x18 2 :: [] := rfl

theorem witness_PendingCommandCompletes :
    ∃ s : State, s.busy = true ∧ s.events ≠ [] ∧
      ∀ e ∈ s.events, (∃ w o v, e = .hostWrite w o v) ∨ (∃ w o, e = .hostRead w o) :=
  ⟨midway, rfl, by decide, fun e he => .inr ⟨32, 0x18, by simpa [midway] using he⟩⟩

theorem witness_AssemblerLine :
    ∃ s t u : State, s.busy = false ∧ performAll (issueEvents ⟨.gfMul, some 3, some 7, none⟩) s = .next t ∧
      exec .gfMul t = .next u :=
  ⟨State.reset, _, _, rfl, rfl, rfl⟩

theorem witness_NopResult : decode 0x00000000#32 = .ok .nop ∧ State.reset.latch.cmd = 0 := ⟨rfl, rfl⟩

/-- The four cases of BB_WRITE, each at an edge of its range. -/
theorem witness_BbWriteResult :
    (∃ s : State, 32 < s.latch.a2.toNat) ∧
    (∃ s : State, s.latch.a2.toNat ≤ 32 ∧ 2 ^ s.latch.a2.toNat ≤ s.latch.a1.toNat) ∧
    (∃ s : State, s.latch.a2.toNat ≤ 32 ∧ s.latch.a1.toNat < 2 ^ s.latch.a2.toNat ∧
      s.cfg.bbCapBits < s.latch.a0.toNat + s.latch.a2.toNat) ∧
    (∃ s : State, s.latch.a2.toNat ≤ 32 ∧ s.latch.a1.toNat < 2 ^ s.latch.a2.toNat ∧
      s.latch.a0.toNat + s.latch.a2.toNat ≤ s.cfg.bbCapBits) :=
  ⟨⟨pend 0x11 0 0 33, by decide⟩, ⟨pend 0x11 5 1 0, by decide⟩, ⟨pend 0x11 32768 1 1, by decide⟩,
   ⟨pend 0x11 32736 0xFFFFFFFF 32, by decide⟩⟩

theorem witness_BbReadResult :
    (∃ s : State, 32 < s.latch.a1.toNat) ∧
    (∃ s : State, s.latch.a1.toNat ≤ 32 ∧ (s.buf .b0).count < s.latch.a0.toNat + s.latch.a1.toNat) ∧
    (∃ s : State, s.latch.a1.toNat ≤ 32 ∧ s.latch.a0.toNat + s.latch.a1.toNat ≤ (s.buf .b0).count) :=
  ⟨⟨with7 0x12 0 33 0, by decide⟩, ⟨with7 0x12 5 3 0, by decide⟩, ⟨with7 0x12 5 2 0, by decide⟩⟩

theorem witness_WriteReadRoundTrip :
    ∃ t u : State, exec (.bbWrite .b0) (pend 0x11 2 5 3) = .next t ∧ t.err = .ok ∧
      (t.buf .b0).count ≤ (u.buf .b0).count ∧
      (∀ i, 2 ≤ i → i < 5 → (u.buf .b0).bits.readBit i = (t.buf .b0).bits.readBit i) ∧
      u.latch.a0 = 2 ∧ u.latch.a1 = 3 := by
  refine ⟨finish (pend 0x11 2 5 3) (bbWriteEffect .b0 (pend 0x11 2 5 3)),
    { finish (pend 0x11 2 5 3) (bbWriteEffect .b0 (pend 0x11 2 5 3)) with latch := ⟨0x12, 2, 3, 0⟩ },
    rfl, by decide +kernel, ?_, ?_, rfl, rfl⟩
  · exact Nat.le_refl _
  · intro i _ _; rfl

theorem witness_BbGetbitSetbitResults :
    (∃ s : State, (s.buf .b0).count ≤ s.latch.a0.toNat) ∧ (∃ s : State, s.latch.a0.toNat < (s.buf .b0).count) :=
  ⟨⟨with7 0x13 7 0 0, by decide⟩, ⟨with7 0x13 6 0 0, by decide⟩⟩

theorem witness_BbCountAndRdbyteResults :
    (∃ s : State, ((s.buf .b0).count + 7) / 8 ≤ s.latch.a0.toNat) ∧
    (∃ s : State, s.latch.a0.toNat < ((s.buf .b0).count + 7) / 8) :=
  ⟨⟨with7 0x16 1 0 0, by decide⟩, ⟨with7 0x16 0 0 0, by decide⟩⟩

theorem witness_FieldTables : (1 : Byte) ≠ 0 ∧ (255 : Byte) ≠ 0 ∧ gfExp 254 = 0x8E := by decide +kernel

theorem witness_FieldLaws : (255 : Byte) ≠ 0 := by decide

theorem witness_GfDivExpLogResults :
    (pend 0x22 5 0x100 0).latch.a1.extractLsb' 0 8 = 0 ∧ (pend 0x22 5 1 0).latch.a1.extractLsb' 0 8 ≠ 0 ∧
    510 < (pend 0x24 511 0 0).latch.a0.toNat ∧ (pend 0x24 510 0 0).latch.a0.toNat ≤ 510 ∧
    (pend 0x25 0x100 0 0).latch.a0.extractLsb' 0 8 = 0 ∧ (pend 0x25 1 0 0).latch.a0.extractLsb' 0 8 ≠ 0 ∧
    (ran (exec .gfDiv (pend 0x22 5 0 0))).map (·.err) = some .divideByZero := by decide +kernel

theorem witness_PlSetlenWriteResults :
    2 ≤ (pend 0x30 2 3 0).latch.a0.toNat ∧
    ((pend 0x30 1 257 0).latch.a0.toNat < 2 ∧ 256 < (pend 0x30 1 257 0).latch.a1.toNat) ∧
    ((pend 0x31 0 256 1).latch.a0.toNat < 2 ∧ 256 ≤ (pend 0x31 0 256 1).latch.a1.toNat) ∧
    ((pend 0x30 0 256 0).latch.a0.toNat = 0 ∧ (pend 0x30 0 256 0).latch.a1.toNat ≤ 256) ∧
    ((pend 0x30 1 256 0).latch.a0.toNat = 1 ∧ (pend 0x30 1 256 0).latch.a1.toNat ≤ 256) ∧
    ((pend 0x31 0 255 1).latch.a0.toNat = 0 ∧ (pend 0x31 0 255 1).latch.a1.toNat < 256) ∧
    ((pend 0x31 1 255 1).latch.a0.toNat = 1 ∧ (pend 0x31 1 255 1).latch.a1.toNat < 256) := by decide

theorem witness_PlReadGetlenResults :
    3 ≤ (pend 0x32 3 0 0).latch.a0.toNat ∧ (pend 0x32 0 0 0).latch.a0.toNat = 0 ∧
    (pend 0x32 1 0 0).latch.a0.toNat = 1 ∧ (pend 0x32 2 0 0).latch.a0.toNat = 2 ∧
    (polys [] [1, 2] 0x32 1 2 0).pb.len ≤ (polys [] [1, 2] 0x32 1 2 0).latch.a1.toNat ∧
    (polys [] [1, 2] 0x32 1 1 0).latch.a1.toNat < (polys [] [1, 2] 0x32 1 1 0).pb.len := by decide

theorem witness_PlMulResult :
    (polys [] [1] 0x35 0 0 0).pa.len = 0 ∧ (polys [1] [1] 0x35 0 0 0).pa.len ≠ 0 ∧
    (polys [1] [1] 0x35 0 0 0).pb.len ≠ 0 := by decide

theorem witness_PlDivResult : (polys [1] [] 0x36 0 0 0).pb.len = 0 ∧ (polys [1] [1] 0x36 0 0 0).pb.len ≠ 0 := by decide

theorem witness_DivisionIdentity :
    ∃ s t : State, s.pb.len ≠ 0 ∧ s.pb.coef.read 0 = 1 ∧ exec .plDiv s = .next t :=
  ⟨polys [0x12, 0x34, 0x56] [1, 7, 14, 8] 0x36 0 0 0, _, by decide, by decide +kernel, rfl⟩

theorem witness_PlGenMovraResults :
    (pend 0x37 8 0 0).latch.a0.toNat ∉ supportedEc ∧ (pend 0x37 30 0 0).latch.a0.toNat ∈ supportedEc ∧
    256 < ({ pend 0x38 0 0 0 with pr := ⟨257, []⟩ } : State).pr.len ∧
    ({ pend 0x38 0 0 0 with pr := ⟨256, []⟩ } : State).pr.len ≤ 256 := by decide

theorem witness_GeneratorRomProducts :
    7 ∈ supportedEc ∧ 8 ∉ supportedEc ∧ ∃ g, generator 7 = some g :=
  ⟨by decide, by decide, _, rfl⟩

/-- The 1-H state of 95_test_vectors.md V2, and states that fail each check of RS_ENCODE. -/
def rsState (a0 a1 a2 : Word) (n : Nat) : State := { pend 0x40 a0 a1 a2 with b0 := .ofBytes (List.replicate n 0x20) }

theorem witness_RsEncodeChecks :
    (rsState 8 0x901 0 9).latch.a0.toNat ∉ supportedEc ∧
    (17 ∈ supportedEc ∧ (rsState 17 0x10109 0 9).latch.a1.toNat / 65536 ≠ 0) ∧
    (0 < (rsState 17 1 0 9).latch.a1.toNat % 256 ∧ (rsState 17 1 0 9).latch.a1.toNat / 256 % 256 = 0) ∧
    ((rsState 17 0 0 9).latch.a1.toNat % 256 + (rsState 17 0 0 9).latch.a2.toNat % 256 = 0) ∧
    (((rsState 17 0x901 0 8).b0.count + 7) / 8 ≠ 1 * 9 + 0 * 0) := by decide

theorem witness_RsEncodeChecks_capacity :
    ∃ s : State, s.latch.a0.toNat = 7 ∧ 7 ∈ supportedEc ∧ s.latch.a1.toNat = 255 + 16 * 256 ∧
      s.latch.a2.toNat = 1 + 16 * 256 ∧ ((s.buf .b0).count + 7) / 8 = 255 * 16 + 1 * 16 ∧
      s.cfg.bbCapBits < 8 * (255 * 16 + 1 * 16 + (255 + 1) * 7) :=
  ⟨{ pend 0x40 7 0x10FF 0x1001 with b0 := ⟨32768, []⟩ }, by decide, by decide, by decide, by decide, by decide, by decide⟩

theorem witness_RsEncodeOutput :
    ∃ (s : State) (g : List Byte), s.latch.a0.toNat = 17 ∧ s.latch.a1.toNat = 1 + 9 * 256 ∧ s.latch.a2.toNat = 0 ∧
      generator 17 = some g ∧ ((s.buf .b0).count + 7) / 8 = 1 * 9 + 0 * 0 ∧
      8 * (1 * 9 + 0 * 0 + (1 + 0) * 17) ≤ s.cfg.bbCapBits :=
  ⟨{ pend 0x40 17 0x901 0 with b0 := ⟨72, []⟩ }, _, by decide, by decide, by decide, rfl, by decide, by decide⟩

theorem witness_RsInterleaveLaw :
    (ran (exec (.rsEncode .b0) (rsState 17 0x901 0 9))).map (·.err) = some .ok ∧ (generator 17).isSome = true := by
  decide +kernel

/-- The first and last versions and cells of FunctionMapIsUnionOfStamps, AlignmentCentres, FunctionMapLaws,
DataModuleCount, ZigzagVisitsEachDataCellOnce and ZigzagOrder. -/
theorem witness_FunctionMap :
    1 ≤ 40 ∧ 40 ≤ 40 ∧ 176 < 17 + 4 * 40 ∧ isFunction 40 176 176 = false ∧ isFunction 1 8 13 = true := by
  decide +kernel

theorem witness_RowRanges : (9, 4) ∈ rowRanges 1 0 ∧ isFunction 1 9 0 = false := by decide +kernel

theorem witness_FmCommandResults :
    (pend 0x50 0 0 0).latch.a0.toNat < 1 ∧ 40 < (pend 0x50 41 0 0).latch.a0.toNat ∧
    (1 ≤ 1 ∧ 17 + 4 * 1 ≤ (pend 0x51 1 21 0).latch.a1.toNat) ∧ 17 + 4 * 1 ≤ (pend 0x51 1 0 21).latch.a2.toNat ∧
    (20 < 17 + 4 * 1 ∧ (rowRanges 1 9).length ≤ (pend 0x53 1 9 2).latch.a2.toNat) ∧
    (rowRanges 1 9)[1]? = some (7, 14) := by decide +kernel

theorem witness_MatrixCommandResults :
    (pend 0x60 0 0 0).mv ≤ 40 ∧ (pend 0x60 0 0 0).latch.a0.toNat < 1 ∧ 40 < (pend 0x60 41 0 0).latch.a0.toNat ∧
    (1 ≤ (pend 0x60 40 0 0).latch.a0.toNat ∧ (pend 0x60 40 0 0).latch.a0.toNat ≤ 40) ∧ (pend 0x61 0 0 0).mv = 0 ∧
    (({ pend 0x61 21 0 0 with mv := 1 } : State).mv ≠ 0 ∧ 17 + 4 * 1 ≤ (pend 0x61 21 0 0).latch.a0.toNat) ∧
    ((pend 0x61 20 20 0).latch.a0.toNat < 17 + 4 * 1 ∧ (pend 0x61 20 20 0).latch.a1.toNat < 17 + 4 * 1) := by decide

theorem witness_PlaceResult :
    (pend 0x63 0 0 0).mv = 0 ∧ (200 : Nat) ≠ 8 * totalCodewords 1 ∧ (208 : Nat) = 8 * totalCodewords 1 ∧
    (zigzag 1)[207]? = some (0, 12) ∧ isFunction 1 0 0 = true ∧
    ((352 : Nat) = 8 * totalCodewords 2 ∧ (zigzag 2)[352]? = some (0, 13)) := by decide +kernel

end Sys2Proof.Tests
end

section
/-! SUPPORT. The configuration in the model (00_scope.md R3): a command that runs under another configuration has the
same outcome, except where the capacities differ and one of the two ends with CAPACITY_EXCEEDED; the base and the byte
order have no effect at all. -/

namespace Sys2Proof.Machine

/-! ### A state under another configuration -/

/-- The state with its configuration replaced. -/
def State.withCfg (s : State) (c : Config) : State := { s with cfg := c }

@[simp] theorem State.withCfg_self (s : State) : s.withCfg s.cfg = s := rfl

@[simp] theorem State.withCfg_cfg (s : State) (c : Config) : (s.withCfg c).cfg = c := rfl

@[simp] theorem State.withCfg_busy (s : State) (c : Config) : (s.withCfg c).busy = s.busy := rfl
@[simp] theorem State.withCfg_latch (s : State) (c : Config) : (s.withCfg c).latch = s.latch := rfl
@[simp] theorem State.withCfg_int0 (s : State) (c : Config) : (s.withCfg c).int0 = s.int0 := rfl
@[simp] theorem State.withCfg_int1 (s : State) (c : Config) : (s.withCfg c).int1 = s.int1 := rfl
@[simp] theorem State.withCfg_int2 (s : State) (c : Config) : (s.withCfg c).int2 = s.int2 := rfl

/-! ### Outcomes of one command under two configurations -/

/-- The outcomes of a command under the configurations `c₀` and `c` agree: they are the same error code or the same
writes, or the capacities differ and one of the two is CAPACITY_EXCEEDED. -/
inductive AgreeUpToCapacity (c₀ c : Config) : Effect → Effect → Prop where
  | ok (t : State) : AgreeUpToCapacity c₀ c (.ok t) (.ok (t.withCfg c))
  | error (e : ErrCode) : AgreeUpToCapacity c₀ c (.error e) (.error e)
  | exceededLeft (r : Effect) (h : c.bbCapBits ≠ c₀.bbCapBits) :
      AgreeUpToCapacity c₀ c (.error .capacityExceeded) r
  | exceededRight (r : Effect) (h : c.bbCapBits ≠ c₀.bbCapBits) :
      AgreeUpToCapacity c₀ c r (.error .capacityExceeded)

namespace AgreeUpToCapacity

variable {c₀ c : Config} {r₁ r₂ q₁ q₂ : Effect}

/-- A check that does not read the configuration. -/
theorem ite {p : Prop} [Decidable p] (h₁ : AgreeUpToCapacity c₀ c r₁ q₁)
    (h₂ : AgreeUpToCapacity c₀ c r₂ q₂) :
    AgreeUpToCapacity c₀ c (if p then r₁ else r₂) (if p then q₁ else q₂) := by
  split
  · exact h₁
  · exact h₂

/-- The capacity check, the one check that reads the configuration. -/
theorem capacity (need : Nat) (h : AgreeUpToCapacity c₀ c r₂ q₂) :
    AgreeUpToCapacity c₀ c
      (if need > c₀.bbCapBits then .error .capacityExceeded else r₂)
      (if need > c.bbCapBits then .error .capacityExceeded else q₂) := by
  by_cases h₀ : need > c₀.bbCapBits <;> by_cases h₁ : need > c.bbCapBits
  · rw [if_pos h₀, if_pos h₁]; exact .error _
  · rw [if_pos h₀]; exact .exceededLeft _ (by omega)
  · rw [if_pos h₁]; exact .exceededRight _ (by omega)
  · rw [if_neg h₀, if_neg h₁]; exact h

end AgreeUpToCapacity

/-- RS_ENCODE reads the configuration in its capacity check only (44_rs_encoder.md R191). -/
theorem rsEncodeWith_agreeUpToCapacity (g : List Byte) (b : BSel) (s : State) (c : Config) :
    AgreeUpToCapacity s.cfg c (rsEncodeWith g b s) (rsEncodeWith g b (s.withCfg c)) := by
  cases b <;> exact .ite (.error _) (.ite (.error _) (.ite (.error _) (.ite (.error _) (.capacity _ (.ok _)))))

/-- Every command's outcome, from the shape of its checks. -/
theorem exec_agreeUpToCapacity (i : Instr) (s : State) (c : Config) :
    ∃ r q, exec i s = done s r ∧ exec i (s.withCfg c) = done (s.withCfg c) q ∧
      AgreeUpToCapacity s.cfg c r q := by
  cases i
  case nop | bbCount b | bbEqual | gfAdd | gfMul | gfPow | plAdd | plMul => exact ⟨_, _, rfl, rfl, .ok _⟩
  case bbClear b => cases b <;> exact ⟨_, _, rfl, rfl, .ok _⟩
  case bbGetbit b | bbRdbyte b | gfDiv | gfExp | gfLog | plDiv | plMovra | fmLoad | matInit =>
    exact ⟨_, _, rfl, rfl, .ite (.error _) (.ok _)⟩
  case bbSetbit b => cases b <;> exact ⟨_, _, rfl, rfl, .ite (.error _) (.ok _)⟩
  case bbRead b | fmQuery | fmRowcnt | matRead | matWrite | place b =>
    exact ⟨_, _, rfl, rfl, .ite (.error _) (.ite (.error _) (.ok _))⟩
  case plGen =>
    refine ⟨_, _, rfl, rfl, ?_⟩
    rw [State.withCfg_int0]
    cases generator s.int0 with
    | none => exact .error _
    | some g => exact .ok _
  case plGetlen =>
    refine ⟨_, _, rfl, rfl, ?_⟩
    rw [State.withCfg_int0]
    cases polySel s.int0 with
    | none => exact .error _
    | some p => cases p <;> exact .ok _
  case plRead =>
    refine ⟨_, _, rfl, rfl, ?_⟩
    rw [State.withCfg_int0]
    cases polySel s.int0 with
    | none => exact .error _
    | some p => cases p <;> exact .ite (.error _) (.ok _)
  case plSetlen | plWrite =>
    refine ⟨_, _, rfl, rfl, ?_⟩
    rw [State.withCfg_int0]
    cases operandSel s.int0 with
    | none => exact .error _
    | some p => cases p <;> exact .ite (.error _) (.ok _)
  case fmRowrange =>
    refine ⟨_, _, rfl, rfl, .ite (.error _) (.ite (.error _) ?_)⟩
    rw [State.withCfg_int0, State.withCfg_int1, State.withCfg_int2]
    cases (rowRanges s.int0 s.int1)[s.int2]? with
    | none => exact .error _
    | some r => exact .ok _
  case bbWrite b =>
    cases b <;> exact ⟨_, _, rfl, rfl, .ite (.error _) (.ite (.error _) (.capacity _ (.ok _)))⟩
  case rsEncode b =>
    refine ⟨_, _, rfl, rfl, ?_⟩
    rw [State.withCfg_int0]
    cases generator s.int0 with
    | none => exact .error _
    | some g => exact rsEncodeWith_agreeUpToCapacity g b s c

/-- A command under two configurations: the same next state but for the configuration, or the capacities differ and one
of the two ends with CAPACITY_EXCEEDED. -/
theorem exec_withCfg_cases (i : Instr) (s t u : State) (c : Config) (ht : exec i s = .next t)
    (hu : exec i (s.withCfg c) = .next u) :
    u = t.withCfg c ∨
      (c.bbCapBits ≠ s.cfg.bbCapBits ∧ (t.err = .capacityExceeded ∨ u.err = .capacityExceeded)) := by
  obtain ⟨r, q, hr, hq, hrq⟩ := exec_agreeUpToCapacity i s c
  cases hr.symm.trans ht
  cases hq.symm.trans hu
  cases hrq with
  | ok t => exact .inl rfl
  | error e => exact .inl rfl
  | exceededLeft _ hc => exact .inr ⟨hc, .inl rfl⟩
  | exceededRight _ hc => exact .inr ⟨hc, .inr rfl⟩

/-! ### Equal capacities: nothing else of the configuration is read -/

/-- Under a configuration of the same capacity a command has the same outcome. -/
theorem exec_withCfg (i : Instr) (s t : State) (c : Config) (hc : c.bbCapBits = s.cfg.bbCapBits)
    (h : exec i s = .next t) : exec i (s.withCfg c) = .next (t.withCfg c) := by
  obtain ⟨q, hq⟩ := exec_eq_done i (s.withCfg c)
  obtain hu | ⟨hne, -⟩ := exec_withCfg_cases i s t _ c h hq
  · exact hq.trans (congrArg _ hu)
  · exact absurd hc hne

theorem engineTurn_withCfg (s t : State) (c : Config) (hc : c.bbCapBits = s.cfg.bbCapBits)
    (h : engineTurn s = .next t) : engineTurn (s.withCfg c) = .next (t.withCfg c) := by
  obtain ⟨hb, hs⟩ | ⟨hb, i, hd, hs⟩ | ⟨hb, e, hd, hs⟩ := engineTurn_cases s
  · have hw : engineTurn (s.withCfg c) = .next (s.withCfg c) := if_neg (by simp [hb])
    cases hs.symm.trans h
    exact hw
  · have hw : engineTurn (s.withCfg c) = exec i (s.withCfg c) := by simp [engineTurn, hb, hd]
    exact hw.trans (exec_withCfg i s t c hc (hs.symm.trans h))
  · have hw : engineTurn (s.withCfg c) = illegalCommand (s.withCfg c) := by simp [engineTurn, hb, hd]
    cases hs.symm.trans h
    exact hw

theorem offerCommand_withCfg (s : State) (c : Config) (v : Word) :
    offerCommand (s.withCfg c) v = (offerCommand s v).withCfg c := by
  unfold offerCommand
  rw [State.withCfg_busy]
  split
  · rfl
  · rfl

theorem writeReg_withCfg (s : State) (c : Config) (r : WindowReg) (v : Word) :
    writeReg (s.withCfg c) r v = (writeReg s r v).withCfg c := by
  cases r
  case cmd => exact offerCommand_withCfg s c v
  all_goals rfl

theorem hostWrite_withCfg (s : State) (c : Config) (width off : Nat) (v : Word) :
    hostWrite (s.withCfg c) width off v = (hostWrite s width off v).withCfg c := by
  unfold hostWrite
  split
  · exact writeReg_withCfg s c _ v
  · rfl

theorem regValue_withCfg (s : State) (c : Config) (hc : c.bbCapBits = s.cfg.bbCapBits) (r : WindowReg) :
    regValue (s.withCfg c) r = regValue s r := by
  cases r
  case bbCap => exact congrArg wordOf hc
  all_goals rfl

theorem readReg_withCfg (s : State) (c : Config) (hc : c.bbCapBits = s.cfg.bbCapBits) (r : WindowReg) :
    readReg (s.withCfg c) r = readReg s r :=
  congrArg (fun v => if drawsValue s r then Config.mirrorWhileBusy s.draws else v) (regValue_withCfg s c hc r)

theorem hostRead_withCfg (s : State) (c : Config) (hc : c.bbCapBits = s.cfg.bbCapBits) (width off : Nat) :
    hostRead (s.withCfg c) width off = (hostRead s width off).withCfg c := by
  unfold hostRead
  split
  · rw [readReg_withCfg s c hc]; rfl
  · rfl

theorem perform_withCfg (e : Event) (s t : State) (c : Config) (hc : c.bbCapBits = s.cfg.bbCapBits)
    (h : perform e s = .next t) : perform e (s.withCfg c) = .next (t.withCfg c) := by
  cases e with
  | hostWrite width off v => cases h; exact congrArg _ (hostWrite_withCfg s c width off v)
  | hostRead width off => cases h; exact congrArg _ (hostRead_withCfg s c hc width off)
  | platformReset => cases h; rfl
  | engineTurn => exact engineTurn_withCfg s t c hc h

/-- A step reads of the configuration at most the capacity. -/
theorem step_withCfg (s t : State) (c : Config) (hc : c.bbCapBits = s.cfg.bbCapBits) (h : step s = .next t) :
    step (s.withCfg c) = .next (t.withCfg c) := by
  cases he : s.events with
  | nil =>
    rw [step_of_no_event s he] at h
    rw [step_of_no_event (s.withCfg c) he]
    exact engineTurn_withCfg s t c hc h
  | cons e rest =>
    rw [step_of_event s e rest he] at h
    rw [step_of_event (s.withCfg c) e rest he]
    exact perform_withCfg e { s with events := rest } t c hc h

/-- No step changes the configuration: a step commutes with putting the state's own configuration back. -/
theorem step_cfg (s t : State) (h : step s = .next t) : t.cfg = s.cfg := by
  have hw : t = t.withCfg s.cfg := by simpa [h] using step_withCfg s t s.cfg rfl h
  rw [hw, State.withCfg_cfg]

/-- Settles O13: a step commutes with a change of the configuration that keeps the capacity, and a command's outcomes
under two capacities agree except for CAPACITY_EXCEEDED. -/
theorem configurationDependence : Obligations.ConfigurationDependence := by
  refine ⟨fun s t base o h => ?_, fun i s t u c ht hu hte hue => ?_⟩
  · rw [step_cfg s t h]
    exact step_withCfg s t { s.cfg with qseBase := base, busByteOrder := o } rfl h
  · obtain huc | ⟨-, hx | hx⟩ := exec_withCfg_cases i s t u c ht hu
    · exact huc
    · exact absurd hx hte
    · exact absurd hx hue

end Sys2Proof.Machine
end

section
/-! SUPPORT. The writes of a command (10_state.md section 4, 30_encoding.md section 3): for each of the 33 commands the
updates of the state it may make, with the bounds its own checks have established. What a command leaves unchanged, and
that it keeps the invariant, are read off this one list. -/

namespace Sys2Proof.Machine

open Sys2Proof.Rules

/-! ### What a command may write -/

/-- `CommandWrites s i u`: the state `u` is `s` with writes that command `i` may make before its completion. A command
that fails makes none. -/
inductive CommandWrites (s : State) : Instr → State → Prop where
  | nothing (i : Instr) : CommandWrites s i s
  | res0 (i : Instr) (v : Word) (hi : writesRes i = (true, false)) : CommandWrites s i (s.setRes0 v)
  | bbClear (b : BSel) : CommandWrites s (.bbClear b) (s.setBuf b BitBuffer.empty)
  | bbWrite (b : BSel) (p : Nat) (v : Word) (n : Nat) (hcap : p + n ≤ s.cfg.bbCapBits) :
      CommandWrites s (.bbWrite b) (s.setBuf b ((s.buf b).writeValue p v n))
  | bbSetbit (b : BSel) (k : Nat) (v : Bool) (hk : k < (s.buf b).count) :
      CommandWrites s (.bbSetbit b) (s.setBuf b { s.buf b with bits := (s.buf b).bits.writeBit k v })
  | bbCount (b : BSel) (v w : Word) : CommandWrites s (.bbCount b) ((s.setRes0 v).setRes1 w)
  | plSetlen (p : PolySel) (len : Nat) (hp : p ≠ .pr) (hlen : len ≤ 256) :
      CommandWrites s .plSetlen (s.setPoly p { s.poly p with len := len })
  | plWrite (p : PolySel) (k : Nat) (v : Byte) (hp : p ≠ .pr) (hk : k < 256) :
      CommandWrites s .plWrite (s.setPoly p { s.poly p with coef := (s.poly p).coef.write k v })
  | plAdd : CommandWrites s .plAdd (s.setPr (s.pr.load (polyAdd s.pa.coeffs s.pb.coeffs)))
  | plMul : CommandWrites s .plMul (s.setPr (s.pr.load (polyMul s.pa.coeffs s.pb.coeffs)))
  | plDiv (v w : Word) :
      CommandWrites s .plDiv (((s.setPr (s.pr.load (polyDiv s.pa.coeffs s.pb.coeffs))).setRes0 v).setRes1 w)
  | plGen (n : Nat) (g : List Byte) (hg : generator n = some g) : CommandWrites s .plGen (s.setPb (s.pb.load g))
  | plMovra (hlen : s.pr.len ≤ 256) : CommandWrites s .plMovra (s.setPa (s.pa.load s.pr.coeffs))
  | rsEncode (b : BSel) (out : List Byte) (v w : Word) (hcap : 8 * out.length ≤ s.cfg.bbCapBits) :
      CommandWrites s (.rsEncode b) (((s.setBuf b.other (BitBuffer.ofBytes out)).setRes0 v).setRes1 w)
  | fmLoad (n : Nat) (v w : Word) : CommandWrites s .fmLoad (((s.markFmc n).setRes0 v).setRes1 w)
  | fmQuery (n : Nat) (v : Word) : CommandWrites s .fmQuery ((s.markFmc n).setRes0 v)
  | fmRowcnt (n : Nat) (v : Word) : CommandWrites s .fmRowcnt ((s.markFmc n).setRes0 v)
  | fmRowrange (n : Nat) (v w : Word) : CommandWrites s .fmRowrange (((s.markFmc n).setRes0 v).setRes1 w)
  | matInit (n : Nat) (hn : n ≤ 40) : CommandWrites s .matInit (s.setMatrix n [])
  | matWrite (x y : Nat) (v : Bool) (hmv : s.mv ≠ 0) (hx : x < sideLen s.mv) (hy : y < sideLen s.mv) :
      CommandWrites s .matWrite (s.setMatrix s.mv (s.mat.writeBit (cellIndex x y) v))
  | place (b : BSel) (vs : List Bool) (v w : Word) (hmv : s.mv ≠ 0) :
      CommandWrites s (.place b)
        ((((s.setMatrix s.mv (placeBits s.mat (zigzag s.mv) vs)).markFmc s.mv).setRes0 v).setRes1 w)

/-! ### The outcome of a command makes only those writes -/

/-- Where the outcome `r` of command `i` is a success, its writes are ones the command may make. -/
def Effect.Writes (i : Instr) (s : State) (r : Effect) : Prop := ∀ u, r = .ok u → CommandWrites s i u

namespace Effect.Writes

variable {i : Instr} {s u : State} {r : Effect}

theorem error (e : ErrCode) : Effect.Writes i s (.error e) := fun _ h => nomatch h

theorem ok (h : CommandWrites s i u) : Effect.Writes i s (.ok u) := fun _ hu => Except.ok.inj hu ▸ h

/-- A check ends the command with an error code, or the rest of the command runs knowing that it passed. -/
theorem check {p : Prop} [Decidable p] {e : ErrCode} (h : ¬ p → Effect.Writes i s r) :
    Effect.Writes i s (if p then .error e else r) := by
  split
  · exact .error e
  · exact h ‹_›

/-- The completion of an outcome. -/
theorem done_cases {t : State} (hr : Effect.Writes i s r) (h : done s r = .next t) :
    ∃ u c, CommandWrites s i u ∧ t = u.complete c := by
  obtain ⟨u, hu, rfl⟩ | ⟨e, -, rfl⟩ := Machine.done_cases s t r h
  · exact ⟨u, .ok, hr u hu, rfl⟩
  · exact ⟨s, e, .nothing i, rfl⟩

end Effect.Writes

theorem operandSel_ne_pr {n : Nat} {p : PolySel} (h : operandSel n = some p) : p ≠ .pr := by
  rintro rfl
  simp only [operandSel] at h
  split at h
  · cases h
  · split at h <;> cases h

theorem isVersion_le {v : Nat} (h : ¬ (!isVersion v) = true) : v ≤ 40 := by
  simp [isVersion] at h
  exact h.2

/-! ### The length of the Reed-Solomon output (44_rs_encoder.md R192 to R194) -/

theorem sum_length_splitBlocks_le (ls : List Nat) (cs : List Byte) :
    ((splitBlocks ls cs).map List.length).sum ≤ cs.length := by
  induction ls generalizing cs with
  | nil => simp [splitBlocks]
  | cons l ls ih =>
    have := ih (cs.drop l)
    simp only [splitBlocks, List.map_cons, List.sum_cons, List.length_take, List.length_drop] at this ⊢
    omega

theorem length_splitBlocks (ls : List Nat) (cs : List Byte) : (splitBlocks ls cs).length = ls.length := by
  induction ls generalizing cs with
  | nil => rfl
  | cons l ls ih => simp [splitBlocks, ih]

theorem length_blockLengths (c1 d1 c2 d2 : Nat) : (blockLengths c1 d1 c2 d2).length = c1 + c2 := by
  simp [blockLengths]

/-- One more column of the interleave holds one codeword of each block that is long enough. -/
theorem length_columns_succ (n : Nat) (blocks : List (List Byte)) :
    (columns (n + 1) blocks).length =
      (columns n blocks).length + (blocks.filterMap (fun b => b[n]?)).length := by
  simp [columns, List.range_succ]

/-- The interleave of `n` columns takes of every block its first `n` codewords. -/
theorem length_columns (n : Nat) (blocks : List (List Byte)) :
    (columns n blocks).length = (blocks.map (fun b => min n b.length)).sum := by
  induction n with
  | zero => simp [columns]
  | succ n ih =>
    rw [length_columns_succ, ih]
    clear ih
    induction blocks with
    | nil => rfl
    | cons b blocks ihb =>
      by_cases hb : n < b.length <;> simp [hb] at ihb ⊢ <;> omega

theorem length_columns_le_sum (n : Nat) (blocks : List (List Byte)) :
    (columns n blocks).length ≤ (blocks.map List.length).sum := by
  rw [length_columns]
  exact List.sum_le_sum fun b _ => Nat.min_le_right n b.length

theorem length_columns_le_mul (n : Nat) (blocks : List (List Byte)) :
    (columns n blocks).length ≤ blocks.length * n := by
  rw [length_columns]
  refine (List.sum_le_card_nsmul _ n ?_).trans_eq (by simp)
  simp only [List.mem_map]
  rintro _ ⟨b, -, rfl⟩
  exact Nat.min_le_left n b.length

/-- The output is no longer than the data codewords and the error codewords of every block. -/
theorem length_interleave_le (ec : Nat) (g : List Byte) (ls : List Nat) (cs : List Byte) :
    (interleave ec g (splitBlocks ls cs)).length ≤ cs.length + ls.length * ec := by
  have hdata := (length_columns_le_sum (maxLength (splitBlocks ls cs)) (splitBlocks ls cs)).trans
    (sum_length_splitBlocks_le ls cs)
  have hec := length_columns_le_mul ec ((splitBlocks ls cs).map (blockEc g))
  rw [List.length_map, length_splitBlocks] at hec
  rw [interleave, List.length_append]
  exact Nat.add_le_add hdata hec

/-! ### The 33 commands -/

theorem rsEncodeWith_writes (g : List Byte) (b : BSel) (s : State) :
    Effect.Writes (.rsEncode b) s (rsEncodeWith g b s) := by
  refine .check fun _ => .check fun _ => .check fun _ => .check fun _ => .check fun hcap => .ok (.rsEncode b _ _ _ ?_)
  refine (Nat.mul_le_mul_left 8 (length_interleave_le _ _ _ _)).trans ?_
  rw [BitBuffer.length_codewords, length_blockLengths]
  exact Nat.le_of_not_gt hcap

/-- What any command can do: writes of its own, and then completion. -/
theorem exec_writes {i : Instr} {s t : State} (h : exec i s = .next t) :
    ∃ u c, CommandWrites s i u ∧ t = u.complete c := by
  revert h
  cases i
  case nop => exact (Effect.Writes.ok (.nothing _)).done_cases
  case bbClear b => exact (Effect.Writes.ok (.bbClear b)).done_cases
  case bbWrite b =>
    refine Effect.Writes.done_cases (.check fun _ => .check fun _ => .check fun hcap => .ok (.bbWrite b _ _ _ ?_))
    exact Nat.le_of_not_gt hcap
  case bbSetbit b =>
    exact Effect.Writes.done_cases (.check fun hk => .ok (.bbSetbit b _ _ (Nat.lt_of_not_ge hk)))
  case bbCount b => exact (Effect.Writes.ok (.bbCount b _ _)).done_cases
  case bbEqual | gfAdd | gfMul | gfPow => exact Effect.Writes.done_cases (.ok (.res0 _ _ rfl))
  case bbGetbit b | bbRdbyte b | gfDiv | gfExp | gfLog =>
    exact Effect.Writes.done_cases (.check fun _ => .ok (.res0 _ _ rfl))
  case bbRead b | matRead =>
    exact Effect.Writes.done_cases (.check fun _ => .check fun _ => .ok (.res0 _ _ rfl))
  case plSetlen =>
    refine Effect.Writes.done_cases ?_
    cases hp : operandSel s.int0 with
    | none => exact .error _
    | some p => exact .check fun hlen => .ok (.plSetlen p _ (operandSel_ne_pr hp) (Nat.le_of_not_gt hlen))
  case plWrite =>
    refine Effect.Writes.done_cases ?_
    cases hp : operandSel s.int0 with
    | none => exact .error _
    | some p => exact .check fun hk => .ok (.plWrite p _ _ (operandSel_ne_pr hp) (Nat.lt_of_not_ge hk))
  case plRead =>
    refine Effect.Writes.done_cases ?_
    cases polySel s.int0 with
    | none => exact .error _
    | some p => exact .check fun _ => .ok (.res0 _ _ rfl)
  case plGetlen =>
    refine Effect.Writes.done_cases ?_
    cases polySel s.int0 with
    | none => exact .error _
    | some p => exact .ok (.res0 _ _ rfl)
  case plAdd => exact (Effect.Writes.ok .plAdd).done_cases
  case plMul => exact (Effect.Writes.ok .plMul).done_cases
  case plDiv => exact Effect.Writes.done_cases (.check fun _ => .ok (.plDiv _ _))
  case plGen =>
    refine Effect.Writes.done_cases ?_
    cases hg : generator s.int0 with
    | none => exact .error _
    | some g => exact .ok (.plGen _ g hg)
  case plMovra => exact Effect.Writes.done_cases (.check fun hlen => .ok (.plMovra (Nat.le_of_not_gt hlen)))
  case rsEncode b =>
    refine Effect.Writes.done_cases ?_
    cases generator s.int0 with
    | none => exact .error _
    | some g => exact rsEncodeWith_writes g b s
  case fmLoad => exact Effect.Writes.done_cases (.check fun _ => .ok (.fmLoad _ _ _))
  case fmQuery => exact Effect.Writes.done_cases (.check fun _ => .check fun _ => .ok (.fmQuery _ _))
  case fmRowcnt => exact Effect.Writes.done_cases (.check fun _ => .check fun _ => .ok (.fmRowcnt _ _))
  case fmRowrange =>
    refine Effect.Writes.done_cases (.check fun _ => .check fun _ => ?_)
    cases (rowRanges s.int0 s.int1)[s.int2]? with
    | none => exact .error _
    | some r => exact .ok (.fmRowrange _ _ _)
  case matInit => exact Effect.Writes.done_cases (.check fun hv => .ok (.matInit _ (isVersion_le hv)))
  case matWrite =>
    refine Effect.Writes.done_cases (.check fun hmv => .check fun hxy => ?_)
    obtain ⟨hx, hy⟩ := not_or.mp hxy
    exact .ok (.matWrite _ _ _ hmv (Nat.lt_of_not_ge hx) (Nat.lt_of_not_ge hy))
  case place b => exact Effect.Writes.done_cases (.check fun hmv => .check fun _ => .ok (.place b _ _ _ hmv))

end Sys2Proof.Machine
end

section
/-! SUPPORT. The invariant of the machine's state (10_state.md section 3): each store's part of it under the updates a
command makes, then the writes of a command, its completion, the host's accesses and the platform's reset. -/

namespace Sys2Proof.Machine

/-! ### Bit buffers (10_state.md R38, R39) -/

namespace BitBuffer.Good

variable {cap : Nat} {x : BitBuffer}

theorem empty : BitBuffer.empty.Good cap := ⟨Nat.zero_le cap, Memory.wf_nil, fun i _ => Memory.readBit_nil i⟩

theorem writeValue (h : x.Good cap) (p : Nat) (v : Word) (n : Nat) (hcap : p + n ≤ cap) :
    (x.writeValue p v n).Good cap where
  count_le := Nat.max_le.mpr ⟨h.count_le, hcap⟩
  canonical := Memory.wf_writeBits _ _ _ h.canonical
  zero_tail i hi := by
    obtain ⟨hx, hp⟩ := Nat.max_le.mp hi
    rw [BitBuffer.readBit_writeValue, if_neg (by omega), h.zero_tail i hx]

theorem writeBit (h : x.Good cap) (k : Nat) (v : Bool) (hk : k < x.count) :
    BitBuffer.Good cap { x with bits := x.bits.writeBit k v } where
  count_le := h.count_le
  canonical := Memory.wf_writeBit _ _ _ h.canonical
  zero_tail i hi := by
    rw [Memory.readBit_writeBit, if_neg (Nat.ne_of_gt (Nat.lt_of_lt_of_le hk hi)), h.zero_tail i hi]

theorem ofBytes (out : List Byte) (hcap : 8 * out.length ≤ cap) : (BitBuffer.ofBytes out).Good cap where
  count_le := hcap
  canonical := Memory.wf_writeBytes _ _ _ Memory.wf_nil
  zero_tail i hi := by
    have hi : 8 * out.length ≤ i := hi
    rw [BitBuffer.readBit_ofBytes, List.getD_eq_default _ _ (by omega), BitVec.ofNat_eq_ofNat, BitVec.getLsbD_zero]

end BitBuffer.Good

/-! ### Polynomial memories (10_state.md R40) -/

namespace Poly.Good

variable {n : Nat} {p : Poly}

theorem empty : Poly.empty.Good n := ⟨Nat.zero_le n, Memory.wf_nil, fun _ h => nomatch h⟩

theorem setLen (h : p.Good n) (len : Nat) (hlen : len ≤ n) : Poly.Good n { p with len := len } :=
  ⟨hlen, h.canonical, h.inside⟩

theorem write (h : p.Good n) (k : Nat) (v : Byte) (hk : k < n) :
    Poly.Good n { p with coef := p.coef.write k v } where
  len_le := h.len_le
  canonical := Memory.wf_write _ _ _ h.canonical
  inside c hc := by
    obtain hck | hc := Memory.mem_write _ _ _ _ hc
    · exact hck ▸ hk
    · exact h.inside c hc

theorem load (h : p.Good n) (cs : List Byte) (hcs : cs.length ≤ n) : (p.load cs).Good n where
  len_le := hcs
  canonical := Memory.wf_writeBytes _ _ _ h.canonical
  inside c hc := by
    obtain ⟨-, hlt⟩ | hc := Memory.mem_writeBytes _ _ _ _ hc
    · omega
    · exact h.inside c hc

end Poly.Good

/-- Every row of the generator ROM fits a polynomial memory (43_gf_poly.md R170). -/
theorem length_le_of_generator {n : Nat} {g : List Byte} (h : generator n = some g) : g.length ≤ 256 := by
  have hrom : ∀ row ∈ generatorRom, row.2.length ≤ 256 := by decide
  obtain ⟨l₁, l₂, hl, -⟩ := List.lookup_eq_some_iff.mp h
  exact hrom (n, g) (by simp [hl])

/-- A product of two operands of at most 256 coefficients fits PR (43_gf_poly.md R166). -/
theorem length_polyMul_le (p q : List Byte) : (polyMul p q).length ≤ p.length + q.length - 1 := by
  by_cases h : p.length = 0 ∨ q.length = 0
  · rw [polyMul_empty p q h]; exact Nat.zero_le _
  · obtain ⟨hp, hq⟩ := not_or.mp h
    exact (length_polyMul p q hp hq).le

/-! ### The module matrix (10_state.md R44) -/

theorem sideLen_le {v : Nat} (h : v ≤ 40) : sideLen v ≤ 177 := by
  unfold sideLen; omega

/-- Every data cell of a column pair lies in the symbol when the pair's right column does (46_placer.md R243). -/
theorem mem_pairCells_lt {v x : Nat} {up : Bool} {c : Nat × Nat} (hx : x < sideLen v) (h : c ∈ pairCells v x up) :
    c.1 < sideLen v ∧ c.2 < sideLen v := by
  obtain ⟨step, hstep, hc⟩ := List.mem_flatMap.mp h
  have hstep := List.mem_range.mp hstep
  have hy : (if up then sideLen v - 1 - step else step) < sideLen v := by split <;> omega
  obtain hc | hc : c = (x, _) ∨ c = (x - 1, _) := by simpa using List.mem_of_mem_filter hc
  · exact hc ▸ ⟨hx, hy⟩
  · exact hc ▸ ⟨by omega, hy⟩

theorem mem_zigzagFrom_lt {v : Nat} {c : Nat × Nat} (n x : Nat) (up : Bool) (hx : x < sideLen v)
    (h : c ∈ zigzagFrom v n x up) : c.1 < sideLen v ∧ c.2 < sideLen v := by
  induction n generalizing x up with
  | zero => simp [zigzagFrom] at h
  | succ n ih =>
    have hx' : (if x = 6 then 5 else x) < sideLen v := by split <;> omega
    simp only [zigzagFrom] at h
    split at h
    · simp at h
    · obtain h | h := List.mem_append.mp h
      · exact mem_pairCells_lt hx' h
      · exact ih _ _ (by omega) h

/-- The placement order visits cells of the symbol only (46_placer.md R243). -/
theorem mem_zigzag_lt {v : Nat} {c : Nat × Nat} (h : c ∈ zigzag v) : c.1 < sideLen v ∧ c.2 < sideLen v :=
  mem_zigzagFrom_lt _ _ _ (by unfold sideLen; omega) h

namespace MatrixGood

variable {mv : Nat} {m : Memory}

theorem empty (h : mv ≤ 40) : MatrixGood mv [] := ⟨h, Memory.wf_nil, fun x y _ hxy => by simp at hxy⟩

theorem side_le (h : MatrixGood mv m) : sideLen mv ≤ 177 := sideLen_le h.version_le

theorem writeBit (h : MatrixGood mv m) {x y : Nat} (v : Bool) (hmv : mv ≠ 0) (hx : x < sideLen mv)
    (hy : y < sideLen mv) : MatrixGood mv (m.writeBit (cellIndex x y) v) where
  version_le := h.version_le
  canonical := Memory.wf_writeBit _ _ _ h.canonical
  outside x' y' hy' hbit := by
    rw [Memory.readBit_writeBit] at hbit
    split at hbit
    · obtain ⟨rfl, rfl⟩ := cellIndex_inj hy' (hy.trans_le h.side_le) ‹_›
      exact ⟨hmv, hx, hy⟩
    · exact h.outside x' y' hy' hbit

theorem placeBits (h : MatrixGood mv m) (cs : List (Nat × Nat)) (vs : List Bool) (hmv : mv ≠ 0)
    (hcs : ∀ c ∈ cs, c.1 < sideLen mv ∧ c.2 < sideLen mv) : MatrixGood mv (placeBits m cs vs) := by
  induction cs generalizing m vs with
  | nil => simpa [Machine.placeBits] using h
  | cons c cs ih =>
    obtain ⟨⟨hx, hy⟩, hcs⟩ := List.forall_mem_cons.mp hcs
    cases vs with
    | nil => exact h
    | cons v vs => exact ih (h.writeBit v hmv hx hy) vs hcs

end MatrixGood

/-! ### The state, one rule per update -/

namespace State.Inv

variable {s : State}

theorem setRes0 (h : s.Inv) (v : Word) : (s.setRes0 v).Inv := { h with }

theorem setRes1 (h : s.Inv) (v : Word) : (s.setRes1 v).Inv := { h with }

theorem markFmc (h : s.Inv) (v : Nat) : (s.markFmc v).Inv := { h with }

theorem buf (h : s.Inv) (b : BSel) : (s.buf b).Good s.cfg.bbCapBits := by
  cases b
  · exact h.b0
  · exact h.b1

theorem setBuf (h : s.Inv) (b : BSel) {x : BitBuffer} (hx : x.Good s.cfg.bbCapBits) : (s.setBuf b x).Inv := by
  cases b
  · exact { h with b0 := hx }
  · exact { h with b1 := hx }

theorem setPa (h : s.Inv) {p : Poly} (hp : p.Good 256) : (s.setPa p).Inv := { h with pa := hp }

theorem setPb (h : s.Inv) {p : Poly} (hp : p.Good 256) : (s.setPb p).Inv := { h with pb := hp }

theorem setPr (h : s.Inv) {p : Poly} (hp : p.Good 511) : (s.setPr p).Inv := { h with pr := hp }

/-- PA and PB, the memories an operand selector names. -/
theorem poly (h : s.Inv) {p : PolySel} (hp : p ≠ .pr) : (s.poly p).Good 256 := by
  cases p with
  | pa => exact h.pa
  | pb => exact h.pb
  | pr => exact absurd rfl hp

theorem setPoly (h : s.Inv) {p : PolySel} (hp : p ≠ .pr) {x : Poly} (hx : x.Good 256) : (s.setPoly p x).Inv := by
  cases p with
  | pa => exact h.setPa hx
  | pb => exact h.setPb hx
  | pr => exact absurd rfl hp

theorem setMatrix (h : s.Inv) {v : Nat} {m : Memory} (hm : MatrixGood v m) : (s.setMatrix v m).Inv :=
  { h with matrix := hm }

theorem complete (h : s.Inv) (c : ErrCode) : (s.complete c).Inv := { h with latch := fun _ => rfl }

theorem withEvents (h : s.Inv) (es : List Event) : State.Inv { s with events := es } := { h with }

/-- A command's writes keep the invariant: its checks keep each store within its bounds. -/
theorem of_writes {i : Instr} {u : State} (h : s.Inv) (hu : CommandWrites s i u) : u.Inv := by
  have hpa := h.pa.len_le
  have hpb := h.pb.len_le
  cases hu with
  | nothing => exact h
  | res0 _ v => exact h.setRes0 v
  | bbClear b => exact h.setBuf b .empty
  | bbWrite b p v n hcap => exact h.setBuf b ((h.buf b).writeValue p v n hcap)
  | bbSetbit b k v hk => exact h.setBuf b ((h.buf b).writeBit k v hk)
  | bbCount b v w => exact (h.setRes0 v).setRes1 w
  | plSetlen p len hp hlen => exact h.setPoly hp ((h.poly hp).setLen len hlen)
  | plWrite p k v hp hk => exact h.setPoly hp ((h.poly hp).write k v hk)
  | plAdd =>
    refine h.setPr (h.pr.load _ ?_)
    rw [length_polyAdd, Poly.length_coeffs, Poly.length_coeffs]
    omega
  | plMul =>
    refine h.setPr (h.pr.load _ ((length_polyMul_le _ _).trans ?_))
    rw [Poly.length_coeffs, Poly.length_coeffs]
    omega
  | plDiv v w =>
    refine ((h.setPr (h.pr.load _ ?_)).setRes0 v).setRes1 w
    rw [length_polyDiv, Poly.length_coeffs, Poly.length_coeffs]
    omega
  | plGen n g hg => exact h.setPb (h.pb.load g (length_le_of_generator hg))
  | plMovra hlen => exact h.setPa (h.pa.load _ ((Poly.length_coeffs s.pr).trans_le hlen))
  | rsEncode b out v w hcap => exact ((h.setBuf b.other (.ofBytes out hcap)).setRes0 v).setRes1 w
  | fmLoad n v w | fmRowrange n v w => exact ((h.markFmc n).setRes0 v).setRes1 w
  | fmQuery n v | fmRowcnt n v => exact (h.markFmc n).setRes0 v
  | matInit n hn => exact h.setMatrix (.empty hn)
  | matWrite x y v hmv hx hy => exact h.setMatrix (h.matrix.writeBit v hmv hx hy)
  | place b vs v w hmv =>
    have hm := h.matrix.placeBits (zigzag s.mv) vs hmv fun c => mem_zigzag_lt
    exact (((h.setMatrix hm).markFmc s.mv).setRes0 v).setRes1 w

/-! ### The engine, the host and the platform -/

theorem exec {i : Instr} {t : State} (h : s.Inv) (ht : exec i s = .next t) : t.Inv := by
  obtain ⟨u, c, hu, rfl⟩ := exec_writes ht
  exact (h.of_writes hu).complete c

theorem engineTurn {t : State} (h : s.Inv) (ht : engineTurn s = .next t) : t.Inv := by
  obtain ⟨-, hs⟩ | ⟨-, i, -, hs⟩ | ⟨-, e, -, hs⟩ := engineTurn_cases s
  · cases hs.symm.trans ht
    exact h
  · exact h.exec (hs.symm.trans ht)
  · cases hs.symm.trans ht
    exact h.complete .illegalCommand

/-- An accepted command fills the latch and sets BUSY; a dropped one sets OVERRUN only (20_memory.md R62). -/
theorem offerCommand (h : s.Inv) (w : Word) : (offerCommand s w).Inv := by
  unfold Machine.offerCommand
  split
  · exact { h with }
  · exact { h with latch := nofun }

theorem writeReg (h : s.Inv) (r : WindowReg) (v : Word) : (writeReg s r v).Inv := by
  cases r
  case cmd => exact h.offerCommand v
  case arg0 | arg1 | arg2 | status => exact { h with }
  all_goals exact h

theorem hostWrite (h : s.Inv) (width off : Nat) (v : Word) : (hostWrite s width off v).Inv := by
  unfold Machine.hostWrite
  split
  · exact h.writeReg _ v
  · exact h

theorem hostRead (h : s.Inv) (width off : Nat) : (hostRead s width off).Inv := by
  unfold Machine.hostRead
  split <;> exact { h with }

theorem platformReset (h : s.Inv) : (platformReset s).Inv :=
  ⟨h.config, fun _ => rfl, .empty, .empty, .empty, .empty, .empty, .empty (Nat.zero_le 40)⟩

theorem perform {e : Event} {t : State} (h : s.Inv) (ht : perform e s = .next t) : t.Inv := by
  cases e with
  | hostWrite width off v => cases ht; exact h.hostWrite width off v
  | hostRead width off => cases ht; exact h.hostRead width off
  | platformReset => cases ht; exact h.platformReset
  | engineTurn => exact h.engineTurn ht

end State.Inv

/-- Settles O8: a step is an event or the engine's turn, and each keeps the invariant. -/
theorem stepKeepsInvariant : Obligations.StepKeepsInvariant := by
  intro s t h ht
  cases he : s.events with
  | nil => exact h.engineTurn (step_of_no_event s he ▸ ht)
  | cons e rest => exact (h.withEvents rest).perform (step_of_event s e rest he ▸ ht)

end Sys2Proof.Machine
end

section
/-! SUPPORT. What each command leaves unchanged (10_state.md section 4, R24), field by field from the list of its
writes. -/

namespace Sys2Proof.Machine

open Sys2Proof.Rules

theorem BSel.eq_other_of_ne {b k : BSel} (h : b ≠ k) : k = b.other := by
  cases b <;> cases k <;> simp_all [BSel.other]

/-- A buffer other than the one replaced. -/
theorem State.buf_setBuf_ne (s : State) {b k : BSel} (x : BitBuffer) (h : b ≠ k) : (s.setBuf b x).buf k = s.buf k := by
  rw [BSel.eq_other_of_ne h, State.buf_setBuf_other]

theorem State.setPoly_buf (s : State) (p : PolySel) (x : Poly) (k : BSel) : (s.setPoly p x).buf k = s.buf k := by
  cases p <;> cases k <;> rfl

/-- PR is not an operand memory: PL_SETLEN and PL_WRITE leave it. -/
theorem State.setPoly_pr (s : State) {p : PolySel} (x : Poly) (h : p ≠ .pr) : (s.setPoly p x).pr = s.pr :=
  s.poly_setPoly_ne p .pr x h.symm

namespace CommandWrites

variable {i : Instr} {s u : State}

/-- No command writes the configuration, an ARG register, OVERRUN, or a field of the model's own. -/
theorem fixed (h : CommandWrites s i u) :
    u.cfg = s.cfg ∧ u.arg0 = s.arg0 ∧ u.arg1 = s.arg1 ∧ u.arg2 = s.arg2 ∧ u.overrun = s.overrun ∧
      u.events = s.events ∧ u.readData = s.readData ∧ u.draws = s.draws := by
  cases h <;> simp

theorem res0_eq (h : CommandWrites s i u) (hi : (writesRes i).1 = false) : u.res0 = s.res0 := by
  cases h <;> simp_all [writesRes]

theorem res1_eq (h : CommandWrites s i u) (hi : (writesRes i).2 = false) : u.res1 = s.res1 := by
  cases h <;> simp_all [writesRes]

theorem buf_eq (h : CommandWrites s i u) {k : BSel} (hk : writesBuf i ≠ some k) : u.buf k = s.buf k := by
  cases h
  case bbClear b | bbWrite b _ _ _ _ | bbSetbit b _ _ _ => exact s.buf_setBuf_ne _ fun e => hk (congrArg some e)
  case rsEncode b _ _ _ _ => simpa using s.buf_setBuf_ne _ fun e => hk (congrArg some e)
  case plSetlen | plWrite => exact s.setPoly_buf _ _ k
  all_goals simp

theorem pa_eq (h : CommandWrites s i u) (h₁ : i ≠ .plSetlen) (h₂ : i ≠ .plWrite) (h₃ : i ≠ .plMovra) :
    u.pa = s.pa := by
  cases h
  case plSetlen | plWrite | plMovra => contradiction
  all_goals simp

theorem pb_eq (h : CommandWrites s i u) (h₁ : i ≠ .plSetlen) (h₂ : i ≠ .plWrite) (h₃ : i ≠ .plGen) :
    u.pb = s.pb := by
  cases h
  case plSetlen | plWrite | plGen => contradiction
  all_goals simp

theorem pr_eq (h : CommandWrites s i u) (h₁ : i ≠ .plAdd) (h₂ : i ≠ .plMul) (h₃ : i ≠ .plDiv) : u.pr = s.pr := by
  cases h
  case plAdd | plMul | plDiv => contradiction
  case plSetlen p _ hp _ | plWrite p _ _ hp _ => exact s.setPoly_pr _ hp
  all_goals simp

theorem fmc_eq (h : CommandWrites s i u) (h₁ : i ≠ .fmLoad) (h₂ : i ≠ .fmQuery) (h₃ : i ≠ .fmRowcnt)
    (h₄ : i ≠ .fmRowrange) (h₅ : ∀ b, i ≠ .place b) : u.fmc = s.fmc := by
  cases h
  case fmLoad | fmQuery | fmRowcnt | fmRowrange => contradiction
  case place b _ _ _ _ => exact absurd rfl (h₅ b)
  all_goals simp

theorem mv_eq (h : CommandWrites s i u) (hi : i ≠ .matInit) : u.mv = s.mv := by
  cases h
  case matInit => contradiction
  all_goals simp

theorem mat_eq (h : CommandWrites s i u) (h₁ : i ≠ .matInit) (h₂ : i ≠ .matWrite) (h₃ : ∀ b, i ≠ .place b) :
    u.mat = s.mat := by
  cases h
  case matInit | matWrite => contradiction
  case place b _ _ _ _ => exact absurd rfl (h₃ b)
  all_goals simp

end CommandWrites

theorem ne_place {i : Instr} (h₀ : i ≠ .place .b0) (h₁ : i ≠ .place .b1) (b : BSel) : i ≠ .place b := by
  cases b
  · exact h₀
  · exact h₁

/-- Settles O12: completion writes none of these fields, and each is left by the writes of every command not named for
it. -/
theorem commandFrame : Obligations.CommandFrame := by
  intro i s t h
  obtain ⟨u, c, hu, rfl⟩ := exec_writes h
  obtain ⟨hcfg, ha0, ha1, ha2, -, hev, hrd, hdr⟩ := hu.fixed
  exact ⟨hcfg, ha0, ha1, ha2, hev, hrd, hdr, hu.res0_eq, hu.res1_eq,
    fun k hk => (u.complete_buf c k).trans (hu.buf_eq hk), hu.pa_eq, hu.pb_eq, hu.pr_eq,
    fun h₁ h₂ h₃ h₄ h₅ h₆ => hu.fmc_eq h₁ h₂ h₃ h₄ (ne_place h₅ h₆), hu.mv_eq,
    fun h₁ h₂ h₃ h₄ => hu.mat_eq h₁ h₂ (ne_place h₃ h₄)⟩

end Sys2Proof.Machine
end

section
/-! SUPPORT. The register window (10_state.md section 2): which register an offset names, a step that is a defined host
access, and the bits of STATUS. -/

namespace Sys2Proof.Machine

/-! ### Offsets (10_state.md R21, 20_memory.md R60, R61) -/

/-- The register an offset names depends on the offset modulo 64 only. -/
theorem regAt_of_mod {off k : Nat} (h : off % 64 = k) : regAt off = windowRegs.getD (k / 4) .reserved3C := by
  rw [regAt, h]

/-- Only offset 0 modulo 64 names CMD. -/
theorem mod_eq_of_regAt_cmd {off : Nat} (ho : off % 4 = 0) (h : regAt off = .cmd) : off % 64 = 0x00 := by
  have hinj : ∀ k < 16, windowRegs.getD k .reserved3C = .cmd → k = 0 := by decide
  have := hinj (off % 64 / 4) (by omega) h
  omega

/-- Only offset 0x18 modulo 64 names STATUS. -/
theorem mod_eq_of_regAt_status {off : Nat} (ho : off % 4 = 0) (h : regAt off = .status) : off % 64 = 0x18 := by
  have hinj : ∀ k < 16, windowRegs.getD k .reserved3C = .status → k = 6 := by decide
  have := hinj (off % 64 / 4) (by omega) h
  omega

theorem accessDefined_iff {width off : Nat} : accessDefined width off = true ↔ width = 32 ∧ off % 4 = 0 := by
  simp [accessDefined]

/-! ### A step that is a defined host access (20_memory.md R61 to R63) -/

section

variable {s : State} {off : Nat} {v : Word} {rest : List Event}

theorem step_hostWrite (h : s.events = .hostWrite 32 off v :: rest) (ho : off % 4 = 0) :
    step s = .next (writeReg { s with events := rest } (regAt off) v) := by
  rw [step_of_event s _ rest h]
  exact congrArg _ (if_pos (accessDefined_iff.mpr ⟨rfl, ho⟩))

/-- A read that draws no unspecified value returns the register's value and changes nothing else. -/
theorem step_hostRead (h : s.events = .hostRead 32 off :: rest) (ho : off % 4 = 0)
    (hd : drawsValue s (regAt off) = false) :
    step s = .next { s with events := rest, readData := regValue s (regAt off) } := by
  have hd' : drawsValue { s with events := rest } (regAt off) = false := hd
  rw [step_of_event s _ rest h, perform, hostRead, if_pos (accessDefined_iff.mpr ⟨rfl, ho⟩), readReg, hd']
  rfl

end

theorem drawsValue_of_idle {s : State} (h : s.busy = false) (r : WindowReg) : drawsValue s r = false := by
  simp [drawsValue, h]

theorem drawsValue_of_not_mirror (s : State) {r : WindowReg} (h : isMirror r = false) : drawsValue s r = false := by
  simp [drawsValue, h]

theorem offerCommand_of_busy {s : State} (h : s.busy = true) (w : Word) :
    offerCommand s w = { s with overrun := true } := if_pos h

theorem offerCommand_of_idle {s : State} (h : s.busy = false) (w : Word) :
    offerCommand s w = { s with latch := ⟨w, s.arg0, s.arg1, s.arg2⟩, busy := true } := if_neg (by simp [h])

/-- The five registers a host write can have an effect on: a write to any other is ignored (10_state.md R36). -/
theorem writeReg_of_readOnly (s : State) {r : WindowReg} (v : Word)
    (h : r ∉ [WindowReg.cmd, .arg0, .arg1, .arg2, .status]) : writeReg s r v = s := by
  cases r
  case cmd | arg0 | arg1 | arg2 | status => exact absurd (by decide) h
  all_goals rfl

/-- Settles O15: writes and reads of the ARG offsets are defined accesses to registers that are no mirror, and an
accepted CMD write latches their values. -/
theorem argRegisters : Obligations.ArgRegisters := by
  intro s v rest
  refine ⟨fun h => step_hostWrite h rfl, fun h => step_hostWrite h rfl, fun h => step_hostWrite h rfl,
    fun h => step_hostRead h rfl (drawsValue_of_not_mirror s rfl),
    fun h => step_hostRead h rfl (drawsValue_of_not_mirror s rfl),
    fun h => step_hostRead h rfl (drawsValue_of_not_mirror s rfl), fun h hb => ?_, rfl, rfl, rfl⟩
  exact ⟨_, (step_hostWrite h rfl).trans (congrArg _ (offerCommand_of_idle (s := { s with events := rest }) hb v)),
    rfl, rfl, rfl⟩

/-- Settles O17: the read-only and reserved offsets name registers that a write does not change, and the two reserved
ones are no mirrors and read 0. -/
theorem readOnlyRegisters : Obligations.ReadOnlyRegisters := by
  have hro : ∀ off ∈ [0x10, 0x14, 0x1C, 0x20, 0x24, 0x28, 0x2C, 0x30, 0x34, 0x38, 0x3C],
      off % 4 = 0 ∧ regAt off ∉ [WindowReg.cmd, .arg0, .arg1, .arg2, .status] := by decide
  intro s off v rest
  refine ⟨fun hoff h => ?_, fun hoff h => ?_⟩
  · obtain ⟨ho, hr⟩ := hro off hoff
    exact (step_hostWrite h ho).trans (congrArg _ (writeReg_of_readOnly _ v hr))
  · obtain rfl | rfl : off = 0x38 ∨ off = 0x3C := by simpa using hoff
    · exact step_hostRead h rfl (drawsValue_of_not_mirror s rfl)
    · exact step_hostRead h rfl (drawsValue_of_not_mirror s rfl)

/-- Settles O20: while BUSY = 0 no read draws an unspecified value, so each returns the value of the register its offset
names. -/
theorem windowReadsWhenIdle : Obligations.WindowReadsWhenIdle := by
  intro s off rest hb ho h
  have hval {k : Nat} (hk : off % 64 = k) :
      regValue s (regAt off) = regValue s (windowRegs.getD (k / 4) .reserved3C) := by rw [regAt_of_mod hk]
  refine ⟨_, step_hostRead h ho (drawsValue_of_idle hb _), hval, hval, hval, hval, hval, hval, hval, hval, hval, hval,
    hval, fun hk j hj => ?_, fun hk j hj => ?_, hval, hval, hval⟩
  · rw [hval hk]
    show (s.fmc.extractLsb' 0 32).getLsbD j = s.fmc.getLsbD (j + 1 - 1)
    simp [hj]
  · rw [hval hk]
    show ((s.fmc.extractLsb' 32 8).setWidth 32).getLsbD j = (decide (j < 8) && s.fmc.getLsbD (j + 33 - 1))
    simp [hj, Nat.add_comm 32 j]

/-! ### STATUS (10_state.md R26, R27) -/

/-- The bits of STATUS, field by field. -/
theorem State.getLsbD_statusWord (s : State) (k : Nat) :
    s.statusWord.getLsbD k =
      if k = 0 then s.busy else if k = 1 then s.overrun else if k < 4 then false
      else if k < 8 then s.err.code.getLsbD (k - 4) else if k < 16 then s.lastop.getLsbD (k - 8) else false := by
  simp only [State.statusWord, BitVec.getLsbD_or, BitVec.getLsbD_shiftLeft, BitVec.getLsbD_setWidth,
    BitVec.getLsbD_ofBool]
  split_ifs with h0 h1 h4 h8 h16
  · simp [h0]
  · simp [h1]
  · have hk : k - 1 ≠ 0 ∧ k < 8 := by omega
    simp [h0, h4, hk]
  · have hk : k - 1 ≠ 0 ∧ k < 32 ∧ k - 4 < 32 := by omega
    simp [h0, h4, h8, hk]
  · have hk : k - 1 ≠ 0 ∧ k < 32 ∧ k - 8 < 32 := by omega
    simp [h0, h8, hk, BitVec.getLsbD_of_ge s.err.code (k - 4) (by omega)]
  · have hk : k - 1 ≠ 0 := by omega
    simp [h0, hk, BitVec.getLsbD_of_ge s.err.code (k - 4) (by omega),
      BitVec.getLsbD_of_ge s.lastop (k - 8) (by omega)]

/-- A host write to STATUS sets OVERRUN to its old value where bit 1 is 0, and to 0 where it is 1. -/
theorem step_writeStatus {s : State} {v : Word} {rest : List Event} (h : s.events = .hostWrite 32 0x18 v :: rest) :
    step s = .next { s with events := rest, overrun := overrunAfterWrite s.overrun v } :=
  step_hostWrite h rfl

theorem overrunAfterWrite_of_set (old : Bool) {v : Word} (h : v.getLsbD 1 = true) :
    overrunAfterWrite old v = false := by
  simp [overrunAfterWrite, h]

theorem overrunAfterWrite_of_clear (old : Bool) {v : Word} (h : v.getLsbD 1 = false) :
    overrunAfterWrite old v = old := by
  simp only [overrunAfterWrite, h, Bool.not_false, Bool.and_true]

/-- A write that changes OVERRUN has bit 1 set and clears it. -/
theorem of_overrunAfterWrite_ne {old : Bool} {v : Word} (h : overrunAfterWrite old v ≠ old) :
    v.getLsbD 1 = true ∧ overrunAfterWrite old v = false := by
  cases hv : v.getLsbD 1 with
  | false => exact absurd (overrunAfterWrite_of_clear old hv) h
  | true => exact ⟨rfl, overrunAfterWrite_of_set old hv⟩

/-- Settles O22: each field is read off the bits of STATUS, and a write to it is one of OVERRUN. -/
theorem statusLayout : Obligations.StatusLayout := by
  refine ⟨fun s => ⟨?_, ?_, ?_, ?_, ?_, ?_⟩, fun s v rest h => ?_, rfl⟩
  · exact s.getLsbD_statusWord 0
  · exact s.getLsbD_statusWord 1
  · refine BitVec.eq_of_getLsbD_eq fun k hk => ?_
    rw [BitVec.getLsbD_extractLsb', s.getLsbD_statusWord, if_neg (by omega), if_neg (by omega), if_pos (by omega)]
    simp
  · refine BitVec.eq_of_getLsbD_eq fun k hk => ?_
    rw [BitVec.getLsbD_extractLsb', s.getLsbD_statusWord, if_neg (by omega), if_neg (by omega), if_neg (by omega),
      if_pos (by omega)]
    simp [hk]
  · refine BitVec.eq_of_getLsbD_eq fun k hk => ?_
    rw [BitVec.getLsbD_extractLsb', s.getLsbD_statusWord, if_neg (by omega), if_neg (by omega), if_neg (by omega),
      if_neg (by omega), if_pos (by omega)]
    simp [hk]
  · refine BitVec.eq_of_getLsbD_eq fun k hk => ?_
    rw [BitVec.getLsbD_extractLsb', s.getLsbD_statusWord, if_neg (by omega), if_neg (by omega), if_neg (by omega),
      if_neg (by omega), if_neg (by omega)]
    simp
  · exact ⟨_, step_writeStatus h, rfl, overrunAfterWrite_of_set s.overrun, overrunAfterWrite_of_clear s.overrun⟩

/-! ### OVERRUN (10_state.md R27) -/

theorem exec_overrun {i : Instr} {s t : State} (h : exec i s = .next t) : t.overrun = s.overrun := by
  obtain ⟨u, c, hu, rfl⟩ := exec_writes h
  obtain ⟨-, -, -, -, hov, -⟩ := hu.fixed
  exact hov

theorem engineTurn_overrun {s t : State} (h : engineTurn s = .next t) : t.overrun = s.overrun := by
  obtain ⟨-, hs⟩ | ⟨-, i, -, hs⟩ | ⟨-, e, -, hs⟩ := engineTurn_cases s
  · cases hs.symm.trans h
    rfl
  · exact exec_overrun (hs.symm.trans h)
  · cases hs.symm.trans h
    rfl

/-- A CMD write that changes OVERRUN came while BUSY = 1 and set it (20_memory.md R62). -/
theorem of_offerCommand_overrun_ne {s : State} {w : Word} (h : (offerCommand s w).overrun ≠ s.overrun) :
    s.busy = true ∧ (offerCommand s w).overrun = true := by
  unfold offerCommand at h ⊢
  split
  · exact ⟨‹_›, rfl⟩
  · rw [if_neg ‹_›] at h
    exact absurd rfl h

/-- A host write that changes OVERRUN is a CMD write while BUSY = 1, or a STATUS write with bit 1 = 1. -/
theorem of_hostWrite_overrun_ne {s : State} {width off : Nat} {v : Word}
    (h : (hostWrite s width off v).overrun ≠ s.overrun) :
    width = 32 ∧
      ((off % 64 = 0x00 ∧ s.busy = true ∧ (hostWrite s width off v).overrun = true) ∨
        (off % 64 = 0x18 ∧ v.getLsbD 1 = true ∧ (hostWrite s width off v).overrun = false)) := by
  unfold hostWrite at h ⊢
  split at h
  · obtain ⟨hw, ho⟩ := accessDefined_iff.mp ‹_›
    rw [if_pos ‹_›]
    refine ⟨hw, ?_⟩
    cases hr : regAt off <;> rw [hr] at h
    case cmd => exact .inl ⟨mod_eq_of_regAt_cmd ho hr, of_offerCommand_overrun_ne h⟩
    case status => exact .inr ⟨mod_eq_of_regAt_status ho hr, of_overrunAfterWrite_ne h⟩
    all_goals exact absurd rfl h
  · exact absurd rfl h

/-- Settles O16: the four ways of R27 to set, clear or keep OVERRUN, and by cases on the step no other way to change
it. -/
theorem overrunFlag : Obligations.OverrunFlag := by
  refine ⟨fun s v rest => ⟨fun h hb => ?_, fun h hv => ?_, fun h hv => ?_⟩, fun s t rest h ht => ?_,
    fun i s t => exec_overrun, fun s t ht hne => ?_, rfl⟩
  · exact (step_hostWrite h rfl).trans (congrArg _ (offerCommand_of_busy (s := { s with events := rest }) hb v))
  · rw [step_writeStatus h, overrunAfterWrite_of_set s.overrun hv]
  · rw [step_writeStatus h, overrunAfterWrite_of_clear s.overrun hv]
  · cases (step_of_event s _ rest h).symm.trans ht
    rfl
  · cases he : s.events with
    | nil => exact absurd (engineTurn_overrun (step_of_no_event s he ▸ ht)) hne
    | cons e rest =>
      have hp := (step_of_event s e rest he).symm.trans ht
      cases e with
      | platformReset => exact .inl ⟨rest, rfl⟩
      | engineTurn => exact absurd (engineTurn_overrun hp) hne
      | hostRead width off =>
        cases hp
        refine absurd ?_ hne
        simp only [hostRead]
        split <;> rfl
      | hostWrite width off v =>
        cases hp
        obtain ⟨rfl, hcase⟩ := of_hostWrite_overrun_ne hne
        exact .inr ⟨off, v, rest, rfl, hcase⟩

end Sys2Proof.Machine
end

section
/-! SUPPORT. The host's accesses and the engine's turn (20_memory.md sections 1 and 2): what a host write and a host
read may change, that no access disturbs a pending command, and that the engine's turn completes it. -/

namespace Sys2Proof.Machine

/-! ### Undefined accesses (20_memory.md R61) -/

section

variable {width off : Nat}

theorem not_accessDefined (h : width ≠ 32 ∨ off % 4 ≠ 0) : ¬ accessDefined width off = true :=
  mt accessDefined_iff.mp (not_and_or.mpr h)

theorem hostWrite_of_undefined (h : width ≠ 32 ∨ off % 4 ≠ 0) (s : State) (v : Word) :
    hostWrite s width off v = s := if_neg (not_accessDefined h)

theorem hostRead_of_undefined (h : width ≠ 32 ∨ off % 4 ≠ 0) (s : State) :
    hostRead s width off = { s with readData := 0 } :=
  if_neg (not_accessDefined h)

end

/-- Settles O18: an access that is not defined is a write that is ignored or a read of 0. -/
theorem undefinedAccesses : Obligations.UndefinedAccesses := by
  refine fun s width off v rest hu => ⟨fun h => ?_, fun h => ?_⟩
  · rw [step_of_event s _ rest h, perform, hostWrite_of_undefined hu]
  · rw [step_of_event s _ rest h, perform, hostRead_of_undefined hu]

/-- Settles O14: offset 0 names CMD, and a write to CMD is accepted or dropped by BUSY. -/
theorem commandAcceptance : Obligations.CommandAcceptance := by
  refine fun s w rest h => ⟨fun hb => ?_, fun hb => ?_⟩
  · exact (step_hostWrite h rfl).trans (congrArg _ (offerCommand_of_idle (s := { s with events := rest }) hb w))
  · exact (step_hostWrite h rfl).trans (congrArg _ (offerCommand_of_busy (s := { s with events := rest }) hb w))

/-! ### What a host access may change (20_memory.md R62, R63) -/

/-- Distinct aligned offsets modulo 64 name distinct registers: the register gives the offset back. -/
theorem four_mul_idxOf_regAt {off : Nat} (ho : off % 4 = 0) : 4 * windowRegs.idxOf (regAt off) = off % 64 := by
  have hidx : ∀ k < 16, windowRegs.idxOf (windowRegs.getD k .reserved3C) = k := by decide
  rw [regAt, hidx (off % 64 / 4) (by omega)]
  omega

theorem offerCommand_args (s : State) (w : Word) :
    (offerCommand s w).arg0 = s.arg0 ∧ (offerCommand s w).arg1 = s.arg1 ∧ (offerCommand s w).arg2 = s.arg2 := by
  unfold offerCommand
  split <;> exact ⟨rfl, rfl, rfl⟩

/-- An ARG register is changed by a write to it only. -/
theorem writeReg_args (s : State) (r : WindowReg) (v : Word) :
    (r ≠ .arg0 → (writeReg s r v).arg0 = s.arg0) ∧ (r ≠ .arg1 → (writeReg s r v).arg1 = s.arg1) ∧
      (r ≠ .arg2 → (writeReg s r v).arg2 = s.arg2) := by
  cases r
  case cmd =>
    obtain ⟨h0, h1, h2⟩ := offerCommand_args s v
    exact ⟨fun _ => h0, fun _ => h1, fun _ => h2⟩
  case arg0 => exact ⟨fun h => absurd rfl h, fun _ => rfl, fun _ => rfl⟩
  case arg1 => exact ⟨fun _ => rfl, fun h => absurd rfl h, fun _ => rfl⟩
  case arg2 => exact ⟨fun _ => rfl, fun _ => rfl, fun h => absurd rfl h⟩
  all_goals exact ⟨fun _ => rfl, fun _ => rfl, fun _ => rfl⟩

theorem hostWrite_args (s : State) (width off : Nat) (v : Word) :
    (off % 64 ≠ 0x04 → (hostWrite s width off v).arg0 = s.arg0) ∧
      (off % 64 ≠ 0x08 → (hostWrite s width off v).arg1 = s.arg1) ∧
      (off % 64 ≠ 0x0C → (hostWrite s width off v).arg2 = s.arg2) := by
  unfold hostWrite
  split
  · obtain ⟨-, ho⟩ := accessDefined_iff.mp ‹_›
    obtain ⟨h0, h1, h2⟩ := writeReg_args s (regAt off) v
    have hoff := four_mul_idxOf_regAt ho
    exact ⟨fun h => h0 fun hr => h (hr ▸ hoff).symm, fun h => h1 fun hr => h (hr ▸ hoff).symm,
      fun h => h2 fun hr => h (hr ▸ hoff).symm⟩
  · exact ⟨fun _ => rfl, fun _ => rfl, fun _ => rfl⟩

/-- A write that is not an accepted command changes no more than the ARG registers and OVERRUN. -/
theorem writeReg_eq_of_not_accepted {s : State} {r : WindowReg} (h : r = .cmd → s.busy = true) (v : Word) :
    writeReg s r v = { s with
      arg0 := (writeReg s r v).arg0, arg1 := (writeReg s r v).arg1, arg2 := (writeReg s r v).arg2,
      overrun := (writeReg s r v).overrun } := by
  cases r
  case cmd => rw [writeReg, offerCommand_of_busy (h rfl)]
  all_goals rfl

theorem hostWrite_eq_of_not_accepted {s : State} {off : Nat} (h : off % 64 = 0x00 → s.busy = true) (width : Nat)
    (v : Word) :
    hostWrite s width off v = { s with
      arg0 := (hostWrite s width off v).arg0, arg1 := (hostWrite s width off v).arg1,
      arg2 := (hostWrite s width off v).arg2, overrun := (hostWrite s width off v).overrun } := by
  unfold hostWrite
  split
  · obtain ⟨-, ho⟩ := accessDefined_iff.mp ‹_›
    exact writeReg_eq_of_not_accepted (fun hr => h (mod_eq_of_regAt_cmd ho hr)) v
  · rfl

theorem hostRead_eq (s : State) (width off : Nat) :
    hostRead s width off = { s with
      readData := (hostRead s width off).readData, draws := (hostRead s width off).draws } := by
  unfold hostRead
  split <;> rfl

/-- Settles O19: a read changes only the model's own record, and a write that accepts no command and leaves OVERRUN
changes an ARG register at most. -/
theorem hostAccessSideEffects : Obligations.HostAccessSideEffects := by
  refine ⟨fun s width off rest h => ?_, fun s width off v rest h hcmd hst => ?_⟩
  · exact ⟨_, step_of_event s _ rest h, hostRead_eq { s with events := rest } width off⟩
  · have heq := hostWrite_eq_of_not_accepted (s := { s with events := rest }) (fun h0 => absurd h0 hcmd) width v
    have hov : (hostWrite { s with events := rest } width off v).overrun = s.overrun := by
      by_contra hne
      obtain ⟨-, ⟨h0, -⟩ | ⟨h18, hv, -⟩⟩ := of_hostWrite_overrun_ne (s := { s with events := rest }) hne
      · exact hcmd h0
      · exact hst ⟨h18, hv⟩
    rw [hov] at heq
    exact ⟨_, step_of_event s _ rest h, heq, hostWrite_args { s with events := rest } width off v⟩

/-! ### The engine's turn (20_memory.md R64) -/

theorem engineTurn_of_decode {s : State} {i : Instr} (hb : s.busy = true) (hd : decode s.latch.cmd = .ok i) :
    engineTurn s = exec i s := by
  rw [engineTurn, if_pos hb, hd]

/-- Settles O5: both forms of step are the engine's turn, which executes the decoded word. -/
theorem stepRunsDecodedCommand : Obligations.StepRunsDecodedCommand := by
  refine fun s i hb hd => ⟨fun h => ?_, fun rest h => ?_⟩
  · rw [step_of_no_event s h, engineTurn_of_decode hb hd]
  · rw [step_of_event s _ rest h]
    exact engineTurn_of_decode (s := { s with events := rest }) hb hd

/-- No command writes the latch before its completion. -/
theorem CommandWrites.latch_eq {i : Instr} {s u : State} (h : CommandWrites s i u) : u.latch = s.latch := by
  cases h <;> simp

/-- What completion leaves of the command latched in `s` (60_exceptions.md R261): BUSY = 0, the latch empty, LASTOP its
opcode. -/
structure Completes (s t : State) : Prop where
  busy   : t.busy = false
  latch  : t.latch = Latch.empty
  lastop : t.lastop = s.latch.cmd.extractLsb' 0 8

theorem complete_completes (s : State) (c : ErrCode) : Completes s (s.complete c) := ⟨rfl, rfl, rfl⟩

theorem exec_completes {i : Instr} {s t : State} (h : exec i s = .next t) : Completes s t := by
  obtain ⟨u, c, hu, rfl⟩ := exec_writes h
  obtain ⟨hb, hl, ho⟩ := complete_completes u c
  exact ⟨hb, hl, hu.latch_eq ▸ ho⟩

/-- With a command pending, legal or not, the engine's turn completes it. -/
theorem engineTurn_completes {s : State} (hb : s.busy = true) : ∃ t, engineTurn s = .next t ∧ Completes s t := by
  obtain ⟨hidle, -⟩ | ⟨-, i, -, hs⟩ | ⟨-, e, -, hs⟩ := engineTurn_cases s
  · exact nomatch hb.symm.trans hidle
  · obtain ⟨r, hr⟩ := exec_eq_done i s
    have ht : exec i s = .next (finish s r) := hr.trans (done_eq s r)
    exact ⟨_, hs.trans ht, exec_completes ht⟩
  · exact ⟨_, hs, complete_completes s _⟩

/-! ### Host accesses while a command is pending (70_reset_and_hazards.md R295) -/

/-- A host write or a host read. -/
def Event.IsAccess (e : Event) : Prop := (∃ w o v, e = .hostWrite w o v) ∨ (∃ w o, e = .hostRead w o)

/-- `t` has the pending command and latched operands of `s`, and the results the command before it left. -/
structure KeepsPending (s t : State) : Prop where
  busy   : t.busy = s.busy
  latch  : t.latch = s.latch
  res0   : t.res0 = s.res0
  res1   : t.res1 = s.res1
  err    : t.err = s.err
  lastop : t.lastop = s.lastop

theorem KeepsPending.refl (s : State) : KeepsPending s s := ⟨rfl, rfl, rfl, rfl, rfl, rfl⟩

theorem KeepsPending.trans {s t u : State} (h : KeepsPending s t) (h' : KeepsPending t u) : KeepsPending s u :=
  ⟨h'.busy.trans h.busy, h'.latch.trans h.latch, h'.res0.trans h.res0, h'.res1.trans h.res1, h'.err.trans h.err,
    h'.lastop.trans h.lastop⟩

/-- While a command is pending a step that is a host access removes its event and keeps the command. -/
theorem step_access_keepsPending {s : State} {e : Event} {rest : List Event} (hb : s.busy = true)
    (h : s.events = e :: rest) (he : e.IsAccess) : ∃ t, step s = .next t ∧ t.events = rest ∧ KeepsPending s t := by
  obtain ⟨width, off, v, rfl⟩ | ⟨width, off, rfl⟩ := he
  · refine ⟨_, step_of_event s _ rest h, ?_⟩
    rw [hostWrite_eq_of_not_accepted (s := { s with events := rest }) (fun _ => hb)]
    exact ⟨rfl, rfl, rfl, rfl, rfl, rfl, rfl⟩
  · refine ⟨_, step_of_event s _ rest h, ?_⟩
    rw [hostRead_eq]
    exact ⟨rfl, rfl, rfl, rfl, rfl, rfl, rfl⟩

theorem run_succ_of_step {s t : State} (h : step s = .next t) (k : Nat) : core.run (k + 1) s = core.run k t := by
  have hc : core.step s = .next t := h
  simp only [Host.Core.run, hc]

/-- As many steps as host accesses wait perform them all and keep the pending command. -/
theorem run_accesses_keepsPending (es : List Event) {s : State} (hb : s.busy = true) (h : s.events = es)
    (hes : ∀ e ∈ es, e.IsAccess) :
    ∃ t : State, core.run es.length s = .next t ∧ t.events = [] ∧ KeepsPending s t := by
  induction es generalizing s with
  | nil => exact ⟨s, rfl, h, .refl s⟩
  | cons e rest ih =>
    obtain ⟨he, hrest⟩ := List.forall_mem_cons.mp hes
    obtain ⟨t, hst, hev, hkeep⟩ := step_access_keepsPending hb h he
    obtain ⟨u, hrun, hnil, hkeep'⟩ := ih (hkeep.busy.trans hb) hev hrest
    exact ⟨u, (run_succ_of_step hst rest.length).trans hrun, hnil, hkeep.trans hkeep'⟩

/-- Settles O24: by induction on the waiting accesses none disturbs the command, and then the engine's turn completes
it. -/
theorem pendingCommandCompletes : Obligations.PendingCommandCompletes := by
  intro s hb hes
  obtain ⟨t, hrun, hnil, hkeep⟩ := run_accesses_keepsPending s.events hb rfl hes
  have htb : t.busy = true := hkeep.busy.trans hb
  obtain ⟨u, hu, hdone⟩ := engineTurn_completes htb
  exact ⟨t, u, hrun, htb, hkeep.latch, hnil, hkeep.res0, hkeep.res1, hkeep.err, hkeep.lastop,
    (step_of_no_event t hnil).trans hu, hdone.busy, hdone.latch, hkeep.latch ▸ hdone.lastop⟩

end Sys2Proof.Machine
end

section
/-! SUPPORT. Command words (30_encoding.md R80 to R88): the three fields of a word, which words decode and to what, and
that the encoder and the decoder are inverse to each other. -/

namespace Sys2Proof

open Sys2Proof.Machine Sys2Proof.Rules

/-! ### The fields of a word (30_encoding.md R80 to R82) -/

theorem toNat_opOf (w : Word) : (opOf w).toNat = w.toNat % 256 := by
  simp [opOf]

theorem toNat_rsvOf (w : Word) : (rsvOf w).toNat = w.toNat / 512 := by
  have hw := w.isLt
  rw [rsvOf, BitVec.extractLsb'_toNat, Nat.shiftRight_eq_div_pow, Nat.mod_eq_of_lt (by omega)]

theorem bselOf_iff (w : Word) : bselOf w = true ↔ w.toNat / 256 % 2 = 1 := by
  rw [bselOf, BitVec.getLsbD, Nat.testBit_eq_decide_div_mod_eq, decide_eq_true_iff]

/-- OP, BSEL and RSV are all of a word. -/
theorem word_eq_of_fields {v w : Word} (hop : opOf v = opOf w) (hbsel : bselOf v = bselOf w)
    (hrsv : rsvOf v = rsvOf w) : v = w := by
  have hop' : v.toNat % 256 = w.toNat % 256 := by rw [← toNat_opOf, hop, toNat_opOf]
  have hrsv' : v.toNat / 512 = w.toNat / 512 := by rw [← toNat_rsvOf, hrsv, toNat_rsvOf]
  have hbsel' : v.toNat / 256 % 2 = 1 ↔ w.toNat / 256 % 2 = 1 := by rw [← bselOf_iff, hbsel, bselOf_iff]
  exact BitVec.eq_of_toNat_eq (by omega)

/-! ### The fields of an encoding (30_encoding.md R85) -/

open Laws.EncodingLegal in
theorem encode_legal (i : Instr) : Statement i := by
  cases i
  exacts [nop, bbClear _, bbWrite _, bbRead _, bbGetbit _, bbSetbit _, bbCount _, bbRdbyte _, bbEqual, gfAdd, gfMul,
    gfDiv, gfPow, gfExp, gfLog, plSetlen, plWrite, plRead, plGetlen, plAdd, plMul, plDiv, plGen, plMovra, rsEncode _,
    fmLoad, fmQuery, fmRowcnt, fmRowrange, matInit, matRead, matWrite, place _]

theorem opOf_encode (i : Instr) : opOf (encode i) = opcode i := (encode_legal i).1

theorem rsvOf_encode (i : Instr) : rsvOf (encode i) = 0 := (encode_legal i).2.1

theorem bselOf_encode (i : Instr) : bselOf (encode i) = (bselField i).elim false BSel.bit := by
  cases hb : bselField i with
  | none => exact (encode_legal i).2.2 hb
  | some b => simp [bselOf, encode, hb]

/-! ### The rows of the opcode table (30_encoding.md R85) -/

@[simp] theorem BSel.ofBit_bit (b : BSel) : BSel.ofBit b.bit = b := by cases b <;> rfl

@[simp] theorem BSel.bit_ofBit (b : Bool) : (BSel.ofBit b).bit = b := by cases b <;> rfl

theorem assigned_eq : assigned = opRows.map (·.op.toNat) := rfl

/-- The encoder's columns of a row's command are the row's own. -/
theorem opcode_make {r : OpRow} (hr : r ∈ opRows) (b : BSel) :
    opcode (r.make b) = r.op ∧ bselField (r.make b) = if r.bsel then some b else none := by
  have hrows : ∀ r ∈ opRows, opcode (r.make b) = r.op ∧ bselField (r.make b) = if r.bsel then some b else none := by
    cases b <;> decide
  exact hrows r hr

theorem mem_takesBsel_iff {r : OpRow} (hr : r ∈ opRows) : r.op.toNat ∈ takesBsel ↔ r.bsel = true := by
  have hrows : ∀ r ∈ opRows, r.op.toNat ∈ takesBsel ↔ r.bsel = true := by decide
  exact hrows r hr

/-- A row that is found is a row of the table, and has the opcode. -/
theorem mem_of_opRow {op : BitVec 8} {r : OpRow} (h : opRow op = some r) : r ∈ opRows ∧ r.op = op :=
  ⟨List.mem_of_find?_eq_some h, by simpa using List.find?_some h⟩

theorem isSome_opRow_iff (op : BitVec 8) : (∃ r, opRow op = some r) ↔ op.toNat ∈ assigned := by
  rw [← Option.isSome_iff_exists, opRow, List.find?_isSome, assigned_eq, List.mem_map]
  simp [BitVec.toNat_inj]

/-- The row found for a command's opcode makes that command, with the buffer the command names. -/
theorem opRow_opcode (i : Instr) :
    ∃ r, opRow (opcode i) = some r ∧ r.make (BSel.ofBit ((bselField i).elim false BSel.bit)) = i := by
  cases i <;> exact ⟨_, rfl, by simp [bselField]⟩

/-! ### The words that decode (30_encoding.md R86, R88) -/

/-- A word decodes exactly when RSV = 0, its opcode has a row, and BSEL is 0 where the row takes none; it decodes to the
command of that row and buffer. -/
theorem decode_eq_ok_iff (w : Word) (i : Instr) :
    decode w = .ok i ↔ rsvOf w = 0 ∧ ∃ r, opRow (opOf w) = some r ∧ (r.bsel = false → bselOf w = false) ∧
      r.make (BSel.ofBit (bselOf w)) = i := by
  by_cases hrsv : rsvOf w = 0#23
  case neg => simp [decode, hrsv]
  cases hrow : opRow (opOf w) with
  | none => simp [decode, hrsv, hrow]
  | some r =>
    cases hr : r.bsel <;> cases hw : bselOf w <;> simp [decode, hrsv, hrow, hr, hw, BSel.ofBit]

/-- Settles O1: the three fields of an encoding lead the decoder back to the row the command stands in. -/
theorem encodeThenDecode : Obligations.EncodeThenDecode := by
  intro i
  rw [decode_eq_ok_iff, opOf_encode, bselOf_encode]
  obtain ⟨r, hrow, hmake⟩ := opRow_opcode i
  refine ⟨rsvOf_encode i, r, hrow, fun hr => ?_, hmake⟩
  have hbsel := (opcode_make (mem_of_opRow hrow).1 (BSel.ofBit ((bselField i).elim false BSel.bit))).2
  rw [hmake, hr] at hbsel
  exact congrArg (Option.elim · false BSel.bit) hbsel

/-- Settles O2: the encoding of the decoded row's command agrees with the word in all three fields. -/
theorem decodeThenEncode : Obligations.DecodeThenEncode := by
  intro w i h
  obtain ⟨hrsv, r, hrow, hbsel, rfl⟩ := (decode_eq_ok_iff w i).mp h
  obtain ⟨hmem, hop⟩ := mem_of_opRow hrow
  obtain ⟨hopcode, hfield⟩ := opcode_make hmem (BSel.ofBit (bselOf w))
  refine word_eq_of_fields ?_ ?_ ?_
  · rw [opOf_encode, hopcode, hop]
  · rw [bselOf_encode, hfield]
    cases hr : r.bsel with
    | true => exact BSel.bit_ofBit _
    | false => exact (hbsel hr).symm
  · rw [rsvOf_encode, hrsv]

/-! ### Illegal words (30_encoding.md R86, 60_exceptions.md R263) -/

/-- The words that decode are the ones that meet none of the three conditions of R86. -/
theorem exists_decode_eq_ok_iff (w : Word) : (∃ i, decode w = .ok i) ↔ ¬ IllegalWord w := by
  have hrsv : rsvOf w = 0 ↔ w.toNat / 512 = 0 := by rw [← BitVec.toNat_inj, toNat_rsvOf]; rfl
  simp only [decode_eq_ok_iff, IllegalWord, not_or, not_not, ← hrsv, ← toNat_opOf, ← isSome_opRow_iff, ← bselOf_iff]
  constructor
  · rintro ⟨i, h0, r, hrow, hbsel, -⟩
    obtain ⟨hmem, hop⟩ := mem_of_opRow hrow
    refine ⟨h0, ⟨r, hrow⟩, fun ⟨hw, hnot⟩ => ?_⟩
    rw [← hop, mem_takesBsel_iff hmem, Bool.not_eq_true] at hnot
    exact nomatch hw.symm.trans (hbsel hnot)
  · rintro ⟨h0, ⟨r, hrow⟩, hbsel⟩
    obtain ⟨hmem, hop⟩ := mem_of_opRow hrow
    rw [← hop, mem_takesBsel_iff hmem] at hbsel
    exact ⟨_, h0, r, hrow, by simpa using fun hr hw => hbsel ⟨hw, hr⟩, rfl⟩

theorem exists_decode_eq_error_iff (w : Word) : (∃ e, decode w = .error e) ↔ IllegalWord w := by
  rw [← not_iff_not, ← exists_decode_eq_ok_iff]
  cases decode w <;> simp

/-- Settles O3: the illegal words are the ones the decoder rejects, the window accepts any word, and the engine's turn
completes a rejected one. -/
theorem illegalWordCompletes : Obligations.IllegalWordCompletes := by
  refine ⟨exists_decode_eq_error_iff, fun s w _ hb => offerCommand_of_idle hb w, fun s hw hb hev => ?_⟩
  obtain ⟨e, he⟩ := (exists_decode_eq_error_iff _).mpr hw
  rw [step_of_no_event s hev, engineTurn, if_pos hb, he]
  rfl

end Sys2Proof
end

section
/-! SUPPORT. What a command does not read (30_encoding.md R84; log 5): the ARG values its row does not name, and the value
the last host read returned. -/

namespace Sys2Proof.Machine

open Sys2Proof.Rules

/-! ### A state with unread inputs replaced -/

/-- The state after the host read another value. -/
def State.withReadData (s : State) (d : Word) : State := { s with readData := d }

@[simp] theorem State.withReadData_self (s : State) : s.withReadData s.readData = s := rfl

/-- The state with what command `i` does not read replaced: the latched ARG values its row does not name by `w0`, `w1`
and `w2`, and the last value read by `d`. -/
def State.withUnread (s : State) (i : Instr) (w0 w1 w2 d : Word) : State :=
  { s with
    latch := ⟨s.latch.cmd, bif (readsArgs i).1 then s.latch.a0 else w0, bif (readsArgs i).2.1 then s.latch.a1 else w1,
      bif (readsArgs i).2.2 then s.latch.a2 else w2⟩
    readData := d }

section

variable {s : State} {i : Instr}

theorem State.withUnread_eq_withReadData (d : Word) :
    s.withUnread i s.latch.a0 s.latch.a1 s.latch.a2 d = s.withReadData d := by
  simp [State.withUnread, State.withReadData]

theorem State.withUnread_eq_withArgs {w0 w1 w2 : Word} (h0 : (readsArgs i).1 = true → w0 = s.latch.a0)
    (h1 : (readsArgs i).2.1 = true → w1 = s.latch.a1) (h2 : (readsArgs i).2.2 = true → w2 = s.latch.a2) :
    s.withUnread i w0 w1 w2 s.readData = { s with latch := ⟨s.latch.cmd, w0, w1, w2⟩ } := by
  have hsel {c : Bool} {a w : Word} (h : c = true → w = a) : (bif c then a else w) = w := by
    cases c with
    | true => exact (h rfl).symm
    | false => rfl
  rw [State.withUnread, hsel h0, hsel h1, hsel h2]

variable {w0 w1 w2 d : Word}

theorem State.withUnread_int0 (h : (readsArgs i).1 = true) : (s.withUnread i w0 w1 w2 d).int0 = s.int0 := by
  rw [State.int0, State.withUnread, h]; rfl

theorem State.withUnread_int1 (h : (readsArgs i).2.1 = true) : (s.withUnread i w0 w1 w2 d).int1 = s.int1 := by
  rw [State.int1, State.withUnread, h]; rfl

theorem State.withUnread_int2 (h : (readsArgs i).2.2 = true) : (s.withUnread i w0 w1 w2 d).int2 = s.int2 := by
  rw [State.int2, State.withUnread, h]; rfl

end

/-! ### The outcome of a command with unread inputs replaced -/

/-- `r'` is `r` with the last value read replaced by `d` in the next state. -/
def SameButReadData (d : Word) (r r' : Result) : Prop := r' = andThen r fun t => .next (t.withReadData d)

/-- A check with one value in two states. -/
theorem SameButReadData.ite {d : Word} {s s' : State} {p : Prop} [Decidable p] {r₁ r₂ q₁ q₂ : Effect}
    (h₁ : SameButReadData d (done s r₁) (done s' q₁)) (h₂ : SameButReadData d (done s r₂) (done s' q₂)) :
    SameButReadData d (done s (if p then r₁ else r₂)) (done s' (if p then q₁ else q₂)) := by
  split
  · exact h₁
  · exact h₂

/-- Every command, from the shape of its checks: each ends with the same error code or makes the same writes. -/
theorem exec_withUnread (i : Instr) (s : State) (w0 w1 w2 d : Word) :
    SameButReadData d (exec i s) (exec i (s.withUnread i w0 w1 w2 d)) := by
  cases i
  case nop | bbCount b | bbEqual | gfAdd | gfMul | gfPow | plAdd | plMul => rfl
  case bbClear b => cases b <;> rfl
  case bbGetbit b | bbRdbyte b | gfDiv | gfExp | gfLog | plDiv | plMovra | fmLoad | matInit => exact .ite rfl rfl
  case bbSetbit b => cases b <;> exact .ite rfl rfl
  case bbRead b | fmQuery | fmRowcnt | matRead | matWrite | place b => exact .ite rfl (.ite rfl rfl)
  case bbWrite b => cases b <;> exact .ite rfl (.ite rfl (.ite rfl rfl))
  case plGen =>
    refine (?_ : SameButReadData d (done _ _) (done _ _))
    rw [State.withUnread_int0 rfl]
    cases generator s.int0 <;> rfl
  case plGetlen =>
    refine (?_ : SameButReadData d (done _ _) (done _ _))
    rw [State.withUnread_int0 rfl]
    cases polySel s.int0 with
    | none => rfl
    | some p => cases p <;> rfl
  case plRead =>
    refine (?_ : SameButReadData d (done _ _) (done _ _))
    rw [State.withUnread_int0 rfl]
    cases polySel s.int0 with
    | none => rfl
    | some p => cases p <;> exact .ite rfl rfl
  case plSetlen | plWrite =>
    refine (?_ : SameButReadData d (done _ _) (done _ _))
    rw [State.withUnread_int0 rfl]
    cases operandSel s.int0 with
    | none => rfl
    | some p => cases p <;> exact .ite rfl rfl
  case fmRowrange =>
    refine SameButReadData.ite rfl (.ite rfl ?_)
    rw [State.withUnread_int0 rfl, State.withUnread_int1 rfl, State.withUnread_int2 rfl]
    cases (rowRanges s.int0 s.int1)[s.int2]? <;> rfl
  case rsEncode b =>
    refine (?_ : SameButReadData d (done _ _) (done _ _))
    rw [State.withUnread_int0 rfl]
    cases generator s.int0 with
    | none => rfl
    | some g => cases b <;> exact .ite rfl (.ite rfl (.ite rfl (.ite rfl (.ite rfl rfl))))

/-- No command writes the last value read. -/
theorem withReadData_of_exec {i : Instr} {s t : State} (h : exec i s = .next t) : t.withReadData s.readData = t := by
  obtain ⟨-, -, -, -, -, hrd, -⟩ := commandFrame i s t h
  rw [← hrd, State.withReadData_self]

/-- Settles O7: the replaced ARG values are among a command's unread inputs, and no command writes the last value
read. -/
theorem unnamedArgsNotRead : Obligations.UnnamedArgsNotRead := by
  intro i s v0 v1 v2 h0 h1 h2
  obtain ⟨r, hr⟩ := exec_eq_done i s
  have ht : exec i s = .next (finish s r) := hr.trans (done_eq s r)
  have hsame := exec_withUnread i s v0 v1 v2 s.readData
  rw [SameButReadData, State.withUnread_eq_withArgs h0 h1 h2, ht, andThen, withReadData_of_exec ht] at hsame
  rw [hsame, ht]

/-- A command runs the same whatever value the host read last. -/
theorem exec_withReadData {i : Instr} {s t : State} (h : exec i s = .next t) (d : Word) :
    exec i (s.withReadData d) = .next (t.withReadData d) := by
  have hsame := exec_withUnread i s s.latch.a0 s.latch.a1 s.latch.a2 d
  rw [SameButReadData, State.withUnread_eq_withReadData, h] at hsame
  exact hsame

end Sys2Proof.Machine
end

section
/-! SUPPORT. The host's assembler lines (30_encoding.md section 5): events performed one after the other, the writes
that issue a command, and the polls of WAIT. -/

namespace Sys2Proof.Machine

theorem performAll_cons {e : Event} {s t : State} (h : perform e s = .next t) (es : List Event) :
    performAll (e :: es) s = performAll es t := by
  rw [performAll, h]

theorem performAll_append (es fs : List Event) (s : State) :
    performAll (es ++ fs) s = andThen (performAll es s) (performAll fs) := by
  induction es generalizing s with
  | nil => rfl
  | cons e es ih =>
    rw [List.cons_append, performAll, performAll]
    cases perform e s with
    | next t => exact ih t
    | fault r => rfl
    | refused r => rfl

/-! ### Issue (30_encoding.md R90) -/

theorem performAll_argWrite_arg0 (a : Option Word) (s : State) :
    performAll (argWrite 0x04 a) s = .next { s with arg0 := a.getD s.arg0 } := by
  cases a <;> rfl

theorem performAll_argWrite_arg1 (a : Option Word) (s : State) :
    performAll (argWrite 0x08 a) s = .next { s with arg1 := a.getD s.arg1 } := by
  cases a <;> rfl

theorem performAll_argWrite_arg2 (a : Option Word) (s : State) :
    performAll (argWrite 0x0C a) s = .next { s with arg2 := a.getD s.arg2 } := by
  cases a <;> rfl

theorem performAll_writeCmd {s : State} (hb : s.busy = false) (w : Word) :
    performAll [.hostWrite 32 0x00 w] s = .next { s with latch := ⟨w, s.arg0, s.arg1, s.arg2⟩, busy := true } :=
  congrArg Host.Outcome.next (offerCommand_of_idle hb w)

/-- The state once a line is issued: its arguments written, its word latched with them, BUSY set. -/
def State.issued (s : State) (l : AsmLine) : State :=
  { s with
    arg0 := l.arg0.getD s.arg0, arg1 := l.arg1.getD s.arg1, arg2 := l.arg2.getD s.arg2
    latch := ⟨encode l.instr, l.arg0.getD s.arg0, l.arg1.getD s.arg1, l.arg2.getD s.arg2⟩
    busy := true }

theorem performAll_issueEvents {s : State} (hb : s.busy = false) (l : AsmLine) :
    performAll (issueEvents l) s = .next (s.issued l) := by
  simp only [issueEvents, performAll_append, performAll_argWrite_arg0, performAll_argWrite_arg1,
    performAll_argWrite_arg2, andThen]
  rw [performAll_writeCmd]
  · rfl
  · exact hb

/-! ### WAIT (30_encoding.md R91) -/

/-- A read of STATUS, while BUSY = 1 too, returns STATUS and changes nothing else. -/
theorem perform_readStatus (s : State) :
    perform (.hostRead 32 0x18) s = .next (s.withReadData s.statusWord) := by
  have hd : drawsValue s (regAt 0x18) = false := drawsValue_of_not_mirror s rfl
  rw [perform, hostRead, if_pos (accessDefined_iff.mpr ⟨rfl, rfl⟩), readReg, hd]
  rfl

/-- Polls change at most the last value read. -/
theorem performAll_polls (n : Nat) (s : State) :
    ∃ d, performAll (List.replicate n (.hostRead 32 0x18)) s = .next (s.withReadData d) := by
  induction n generalizing s with
  | zero => exact ⟨s.readData, rfl⟩
  | succ n ih =>
    obtain ⟨d, hd⟩ := ih (s.withReadData s.statusWord)
    exact ⟨d, (performAll_cons (perform_readStatus s) _).trans hd⟩

/-- WAIT on a pending command executes it, and the last value read is STATUS as it leaves it. -/
theorem performAll_waitEvents {i : Instr} {s t : State} (hb : s.busy = true) (hd : decode s.latch.cmd = .ok i)
    (ht : exec i s = .next t) (polls : Nat) :
    performAll (waitEvents polls) s = .next (t.withReadData t.statusWord) := by
  obtain ⟨d, hpolls⟩ := performAll_polls polls s
  have hturn : perform .engineTurn (s.withReadData d) = .next (t.withReadData d) :=
    (engineTurn_of_decode (s := s.withReadData d) hb hd).trans (exec_withReadData ht d)
  rw [waitEvents, performAll_append, hpolls, andThen, performAll_cons hturn, performAll_cons (perform_readStatus _)]
  rfl

/-- Settles O25: an issued line has its command pending, which WAIT executes; then STATUS shows BUSY = 0 and the
command's code. -/
theorem assemblerLine : Obligations.AssemblerLine := by
  refine ⟨fun s l hb => performAll_issueEvents hb l, fun s t u l polls hb hissue hexec => ?_⟩
  cases (performAll_issueEvents hb l).symm.trans hissue
  have hwait := performAll_waitEvents (s := s.issued l) rfl (encodeThenDecode l.instr) hexec polls
  obtain ⟨hstatus, -⟩ := statusLayout
  obtain ⟨hbusy, -, -, herr, -⟩ := hstatus u
  refine ⟨u.withReadData u.statusWord, ?_, hbusy.trans (exec_completes hexec).busy, herr, rfl, rfl⟩
  rw [lineEvents, performAll_append, hissue, andThen, hwait]

end Sys2Proof.Machine
end

section
/-! SUPPORT. The control command (40_control.md): its one word, and that it does nothing but complete. -/

namespace Sys2Proof.Machine

open Sys2Proof.Rules

/-- The model's completion record is the one the statements write from 60_exceptions.md R261. -/
theorem State.complete_eq_ended (s : State) (c : ErrCode) : s.complete c = ended s c := rfl

/-- NOP's word is the number 0 (40_control.md R100). -/
@[simp] theorem encode_nop : encode .nop = 0x00000000#32 := rfl

/-- NOP completes with OK and writes nothing of its own. -/
theorem exec_nop (s : State) : exec .nop s = .next (s.complete .ok) := done_eq s (.ok s)

/-- Settles O26: the decoder and the encoder are inverse at NOP's one word, and NOP is completion alone. -/
theorem nopResult : Obligations.NopResult := by
  refine ⟨?_, fun w hw => ?_, fun s => ⟨?_, fun hcmd => ?_⟩⟩
  · rw [← encode_nop, encodeThenDecode]
  · exact (decodeThenEncode w .nop hw).symm.trans encode_nop
  · rw [exec_nop, State.complete_eq_ended]
  · rw [← State.complete_eq_ended, State.complete_lastop, hcmd]
    decide

end Sys2Proof.Machine
end

section
/-! SUPPORT. The bit-buffer commands (41_bitbuffer.md): the number a bit range stands for, the outcome of each command
case by case, and what a replaced buffer leaves unchanged. -/

namespace Sys2Proof.Machine

open Sys2Proof.Rules

/-! ### The word of a bit range, most significant bit first (00_scope.md R5, 20_memory.md R66) -/

theorem getLsbD_ofNat_bitsToNat {w : Nat} (vs : List Bool) {k : Nat} (hw : vs.length ≤ w) (hk : k < vs.length) :
    (BitVec.ofNat w (bitsToNat vs)).getLsbD (vs.length - 1 - k) = vs.getD k false := by
  rw [BitVec.getLsbD_ofNat, testBit_bitsToNat vs _ (by omega), decide_eq_true (by omega), Bool.true_and]
  congr 1
  omega

theorem toNat_wordOf_readBits_lt (m : Memory) (p n : Nat) :
    (wordOf (bitsToNat (m.readBits p n))).toNat < 2 ^ n := by
  have hlt := bitsToNat_lt (m.readBits p n)
  rw [Memory.length_readBits] at hlt
  exact (Nat.mod_le _ _).trans_lt hlt

theorem getLsbD_wordOf_readBits (m : Memory) (p : Nat) {n k : Nat} (hn : n ≤ 32) (hk : k < n) :
    (wordOf (bitsToNat (m.readBits p n))).getLsbD (n - 1 - k) = m.readBit (p + k) := by
  have hlen := m.length_readBits p n
  have hbit := getLsbD_ofNat_bitsToNat (w := 32) (m.readBits p n) (k := k) (by omega) (by omega)
  rwa [hlen, Memory.getD_readBits _ _ _ _ hk] at hbit

/-- A word below 2^n is known by its low n bits, most significant bit first. -/
theorem word_eq_of_msbFirst {v w : Word} {n : Nat} (hv : v.toNat < 2 ^ n) (hw : w.toNat < 2 ^ n)
    (h : ∀ k, k < n → v.getLsbD (n - 1 - k) = w.getLsbD (n - 1 - k)) : v = w := by
  refine BitVec.eq_of_getLsbD_eq fun i _ => ?_
  by_cases hi : i < n
  · have hbit := h (n - 1 - i) (by omega)
    rwa [show n - 1 - (n - 1 - i) = i by omega] at hbit
  · have hpow : 2 ^ n ≤ 2 ^ i := Nat.pow_le_pow_right (by decide) (by omega)
    rw [BitVec.getLsbD, BitVec.getLsbD, Nat.testBit_eq_false_of_lt (hv.trans_le hpow),
      Nat.testBit_eq_false_of_lt (hw.trans_le hpow)]

theorem zextBit_eq_ite (v : Bool) : zextBit v = if v then 1 else 0 := by
  cases v <;> rfl

/-! ### The views of a buffer (41_bitbuffer.md R111, R121) -/

theorem BitBuffer.bitz_eq (x : BitBuffer) (i : Nat) : x.bitz i = (decide (i < x.count) && x.bits.readBit i) := by
  rw [BitBuffer.bitz]
  split <;> simp [*]

/-- Byte k of the view holds buffer bits 8k to 8k + 7, the first as its most significant bit. -/
theorem BitBuffer.getLsbD_byteAt (x : BitBuffer) (k : Nat) {j : Nat} (hj : j < 8) :
    (x.byteAt k).getLsbD (7 - j) = x.bitz (8 * k + j) := by
  have hbit := getLsbD_ofNat_bitsToNat (w := 8) ((List.range 8).map fun j => x.bitz (8 * k + j)) (k := j) (by simp)
    (by simpa using hj)
  simpa [BitBuffer.byteAt, hj] using hbit

theorem BitBuffer.sameContent_iff (x y : BitBuffer) :
    x.sameContent y = true ↔ x.count = y.count ∧ ∀ i, i < x.count → x.bits.readBit i = y.bits.readBit i := by
  simp [BitBuffer.sameContent]

/-! ### A command that replaces one buffer and completes -/

/-- It leaves the other buffer, and everything else but the completion record (10_state.md section 4). -/
theorem complete_setBuf_frame (s : State) (b : BSel) (x : BitBuffer) (c : ErrCode) {t : State}
    (ht : t = (s.setBuf b x).complete c) :
    t.buf b = x ∧ t.buf b.other = s.buf b.other ∧ t = { ended s c with b0 := t.b0, b1 := t.b1 } := by
  subst ht
  refine ⟨by simp, by simp, ?_⟩
  cases b <;> rfl

/-! ### The outcomes of the commands (41_bitbuffer.md R112, R113, R115, R116) -/

section

variable {b : BSel} {s t : State}

theorem exec_bbWrite_of_width (h : 32 < s.latch.a2.toNat) :
    exec (.bbWrite b) s = .next (ended s .outOfRange) :=
  congrArg (done s) (if_pos h)

theorem exec_bbWrite_of_value (hn : s.latch.a2.toNat ≤ 32) (h : 2 ^ s.latch.a2.toNat ≤ s.latch.a1.toNat) :
    exec (.bbWrite b) s = .next (ended s .outOfRange) :=
  congrArg (done s) ((if_neg (Nat.not_lt.mpr hn)).trans (if_pos h))

theorem exec_bbWrite_of_capacity (hn : s.latch.a2.toNat ≤ 32) (hv : s.latch.a1.toNat < 2 ^ s.latch.a2.toNat)
    (h : s.cfg.bbCapBits < s.latch.a0.toNat + s.latch.a2.toNat) :
    exec (.bbWrite b) s = .next (ended s .capacityExceeded) :=
  congrArg (done s) ((if_neg (Nat.not_lt.mpr hn)).trans ((if_neg (Nat.not_le.mpr hv)).trans (if_pos h)))

theorem exec_bbWrite_of_fits (hn : s.latch.a2.toNat ≤ 32) (hv : s.latch.a1.toNat < 2 ^ s.latch.a2.toNat)
    (h : s.latch.a0.toNat + s.latch.a2.toNat ≤ s.cfg.bbCapBits) :
    exec (.bbWrite b) s = .next
      ((s.setBuf b ((s.buf b).writeValue s.latch.a0.toNat s.latch.a1 s.latch.a2.toNat)).complete .ok) :=
  congrArg (done s)
    ((if_neg (Nat.not_lt.mpr hn)).trans ((if_neg (Nat.not_le.mpr hv)).trans (if_neg (Nat.not_lt.mpr h))))

/-- A BB_WRITE that ends with OK passed all its checks. -/
theorem of_exec_bbWrite_ok (ht : exec (.bbWrite b) s = .next t) (hok : t.err = .ok) :
    s.latch.a2.toNat ≤ 32 ∧ s.latch.a1.toNat < 2 ^ s.latch.a2.toNat ∧
      s.latch.a0.toNat + s.latch.a2.toNat ≤ s.cfg.bbCapBits := by
  by_cases hn : 32 < s.latch.a2.toNat
  · cases (exec_bbWrite_of_width hn).symm.trans ht
    exact nomatch hok
  have hn := Nat.le_of_not_lt hn
  by_cases hv : 2 ^ s.latch.a2.toNat ≤ s.latch.a1.toNat
  · cases (exec_bbWrite_of_value hn hv).symm.trans ht
    exact nomatch hok
  have hv := Nat.lt_of_not_le hv
  by_cases hcap : s.cfg.bbCapBits < s.latch.a0.toNat + s.latch.a2.toNat
  · cases (exec_bbWrite_of_capacity hn hv hcap).symm.trans ht
    exact nomatch hok
  exact ⟨hn, hv, Nat.le_of_not_lt hcap⟩

theorem exec_bbRead_of_width (h : 32 < s.latch.a1.toNat) : exec (.bbRead b) s = .next (ended s .outOfRange) :=
  congrArg (done s) (if_pos h)

theorem exec_bbRead_of_range (hn : s.latch.a1.toNat ≤ 32)
    (h : (s.buf b).count < s.latch.a0.toNat + s.latch.a1.toNat) :
    exec (.bbRead b) s = .next (ended s .outOfRange) :=
  congrArg (done s) ((if_neg (Nat.not_lt.mpr hn)).trans (if_pos h))

theorem exec_bbRead_of_inside (hn : s.latch.a1.toNat ≤ 32)
    (h : s.latch.a0.toNat + s.latch.a1.toNat ≤ (s.buf b).count) :
    exec (.bbRead b) s = .next { ended s .ok with
      res0 := wordOf (bitsToNat ((s.buf b).bits.readBits s.latch.a0.toNat s.latch.a1.toNat)) } :=
  congrArg (done s) ((if_neg (Nat.not_lt.mpr hn)).trans (if_neg (Nat.not_lt.mpr h)))

/-- BB_SETBIT below `count` (41_bitbuffer.md R115). -/
theorem exec_bbSetbit_of_inside (h : s.latch.a0.toNat < (s.buf b).count) :
    exec (.bbSetbit b) s = .next ((s.setBuf b
      ⟨(s.buf b).count, (s.buf b).bits.writeBit s.latch.a0.toNat (s.latch.a1.getLsbD 0)⟩).complete .ok) :=
  congrArg (done s) (if_neg (Nat.not_le.mpr h))

/-- BB_CLEAR (41_bitbuffer.md R116). -/
theorem exec_bbClear : exec (.bbClear b) s = .next ((s.setBuf b BitBuffer.empty).complete .ok) :=
  done_eq s _

end

/-! ### The statements -/

/-- Settles O28: each failing check is one case of BB_WRITE, and a write that fits puts the value's bits, most
significant first, into the selected buffer. -/
theorem bbWriteResult : Obligations.BbWriteResult := by
  refine ⟨encodeThenDecode (.bbWrite .b0), encodeThenDecode (.bbWrite .b1), fun b s =>
    ⟨exec_bbWrite_of_width, exec_bbWrite_of_value, exec_bbWrite_of_capacity, fun hn hv hcap => ?_⟩⟩
  obtain ⟨hbuf, hother, hframe⟩ := complete_setBuf_frame s b _ .ok rfl
  refine ⟨_, exec_bbWrite_of_fits hn hv hcap, fun k hk => ?_, fun i hi => ?_, ?_, hother, hframe⟩
  · rw [hbuf, BitBuffer.readBit_writeValue, if_pos (by omega), Nat.add_sub_cancel_left]
  · rw [hbuf, BitBuffer.readBit_writeValue, if_neg (by omega)]
  · rw [hbuf, BitBuffer.writeValue_count]

/-- Settles O29: each failing check is one case of BB_READ, and inside the buffer RES0 is the number its bits stand
for. -/
theorem bbReadResult : Obligations.BbReadResult := by
  refine ⟨encodeThenDecode (.bbRead .b0), encodeThenDecode (.bbRead .b1), fun b s =>
    ⟨exec_bbRead_of_width, exec_bbRead_of_range, fun hn hin => ?_⟩⟩
  exact ⟨_, exec_bbRead_of_inside hn hin, toNat_wordOf_readBits_lt _ _ _, fun k hk => getLsbD_wordOf_readBits _ _ hn hk⟩

/-- Settles O30: the word read and the word written are both below 2^nbits and have the same bits. -/
theorem writeReadRoundTrip : Obligations.WriteReadRoundTrip := by
  intro b s t u ht hok hcount hbits ha0 ha1
  obtain ⟨hn, hv, hcap⟩ := of_exec_bbWrite_ok ht hok
  obtain ⟨-, -, hwrite⟩ := bbWriteResult
  obtain ⟨-, -, -, hfits⟩ := hwrite b s
  obtain ⟨t', ht', hwritten, -, htcount, -, -⟩ := hfits hn hv hcap
  cases ht'.symm.trans ht
  obtain ⟨-, -, hread⟩ := bbReadResult
  obtain ⟨-, -, hinside⟩ := hread b u
  rw [ha0, ha1] at hinside
  obtain ⟨v, hu, hlt, hval⟩ := hinside hn (by omega)
  have hva : v = s.latch.a1 := word_eq_of_msbFirst hlt hv fun k hk => by
    rw [hval k hk, hbits _ (by omega) (by omega), hwritten k hk]
  rw [hu, hva]

/-- Settles O31: both commands check the index first; then one reads the bit and the other replaces it in its buffer. -/
theorem bbGetbitSetbitResults : Obligations.BbGetbitSetbitResults := by
  refine ⟨encodeThenDecode (.bbGetbit .b0), encodeThenDecode (.bbGetbit .b1), encodeThenDecode (.bbSetbit .b0),
    encodeThenDecode (.bbSetbit .b1), fun b s => ⟨fun hout => ?_, fun hin => ?_, fun hin => ?_⟩⟩
  · exact ⟨congrArg (done s) (if_pos hout), congrArg (done s) (if_pos hout)⟩
  · rw [← zextBit_eq_ite]
    exact congrArg (done s) (if_neg (Nat.not_le.mpr hin))
  · obtain ⟨hbuf, hother, hframe⟩ := complete_setBuf_frame s b _ .ok rfl
    refine ⟨_, exec_bbSetbit_of_inside hin, fun i => ?_, ?_, hother, hframe⟩
    · rw [hbuf, Memory.readBit_writeBit]
    · rw [hbuf]

/-- Settles O32: BB_COUNT's results are the two counts, and BB_RDBYTE's is a byte of the padded view. -/
theorem bbCountAndRdbyteResults : Obligations.BbCountAndRdbyteResults := by
  refine ⟨encodeThenDecode (.bbCount .b0), encodeThenDecode (.bbCount .b1), encodeThenDecode (.bbRdbyte .b0),
    encodeThenDecode (.bbRdbyte .b1), fun b s => ⟨rfl, fun hout => ?_, fun hin => ?_⟩⟩
  · exact congrArg (done s) (if_pos hout)
  · refine ⟨(s.buf b).byteAt s.latch.a0.toNat, congrArg (done s) (if_neg (Nat.not_le.mpr hin)), fun j hj => ?_⟩
    rw [BitBuffer.getLsbD_byteAt _ _ hj, BitBuffer.bitz_eq]

/-- Settles O33: RES0 is the bit that says whether the two buffers have the same content. -/
theorem bbEqualResult : Obligations.BbEqualResult := by
  refine ⟨encodeThenDecode .bbEqual, fun s => ⟨zextBit (s.b0.sameContent s.b1), rfl, ?_⟩⟩
  rw [← BitBuffer.sameContent_iff, zextBit_eq_ite]
  cases s.b0.sameContent s.b1 <;> decide

/-- Settles O27: the selected buffer is replaced by the empty one, whose bits are all 0. -/
theorem bbClearResult : Obligations.BbClearResult := by
  refine ⟨encodeThenDecode (.bbClear .b0), encodeThenDecode (.bbClear .b1), fun b s => ?_⟩
  obtain ⟨hbuf, hother, hframe⟩ := complete_setBuf_frame s b _ .ok rfl
  refine ⟨_, exec_bbClear, ?_, fun i => ?_, hother, hframe⟩
  · rw [hbuf, BitBuffer.empty]
  · rw [hbuf, BitBuffer.empty, Memory.readBit_nil]

end Sys2Proof.Machine
end

section
/-! SUPPORT. The field GF(2^8) (42_gf_scalar.md section 1): sums and multiples of x in the field, the product as a sum
of multiples of powers of x, and the tables as the powers of x and their logarithms. -/

namespace Sys2Proof.Machine

open Sys2Proof.Rules

/-! ### Exclusive-OR sums -/

@[simp] theorem xorSum_zero (f : Nat → Byte) : xorSum 0 f = 0#8 := rfl

theorem xorSum_succ (n : Nat) (f : Nat → Byte) : xorSum (n + 1) f = f 0 ^^^ xorSum n (fun i => f (i + 1)) := by
  simp [xorSum, List.range_succ_eq_map, List.foldr_map]

theorem xorSum_succ_last (n : Nat) (f : Nat → Byte) : xorSum (n + 1) f = xorSum n f ^^^ f n := by
  induction n generalizing f with
  | zero => simp [xorSum_succ]
  | succ n ih => rw [xorSum_succ, ih, xorSum_succ n f, BitVec.xor_assoc]

theorem xorSum_congr {n : Nat} {f g : Nat → Byte} (h : ∀ i < n, f i = g i) : xorSum n f = xorSum n g := by
  induction n with
  | zero => rfl
  | succ n ih => rw [xorSum_succ_last, ih fun i hi => h i (by omega), h n (by omega), xorSum_succ_last]

theorem xorSum_xor (n : Nat) (f g : Nat → Byte) :
    xorSum n (fun i => f i ^^^ g i) = xorSum n f ^^^ xorSum n g := by
  induction n with
  | zero => simp
  | succ n ih => simp only [xorSum_succ_last, ih]; ac_rfl

@[simp] theorem xorSum_const_zero (n : Nat) : xorSum n (fun _ => 0#8) = 0#8 := by
  induction n with
  | zero => rfl
  | succ n ih => rw [xorSum_succ_last, ih, BitVec.xor_self]

/-! ### Multiples of powers of x -/

theorem timesX_xor (a b : Byte) : timesX (a ^^^ b) = timesX a ^^^ timesX b := by
  have hsum : ∀ p q : Bool, (if (p ^^ q) then 0x1D#8 else 0#8) =
      (if p then 0x1D#8 else 0#8) ^^^ (if q then 0x1D#8 else 0#8) := by decide
  rw [timesX, BitVec.shiftLeft_xor_distrib, BitVec.getLsbD_xor, hsum, timesX, timesX]
  ac_rfl

@[simp] theorem timesX_zero : timesX 0#8 = 0#8 := rfl

theorem timesX_xorSum (n : Nat) (f : Nat → Byte) : timesX (xorSum n f) = xorSum n (fun i => timesX (f i)) := by
  induction n with
  | zero => simp
  | succ n ih => rw [xorSum_succ_last, timesX_xor, ih, xorSum_succ_last]

@[simp] theorem timesXPow_zero_left (j : Nat) : timesXPow 0#8 j = 0#8 := by
  induction j with
  | zero => rfl
  | succ j ih => rw [timesXPow, ih, timesX_zero]

theorem timesXPow_timesXPow (a : Byte) (i j : Nat) : timesXPow (timesXPow a i) j = timesXPow a (i + j) := by
  induction j with
  | zero => rfl
  | succ j ih => rw [timesXPow, ih]; rfl

/-- The field's polynomial: x^8 = x^4 + x^3 + x^2 + 1 (42_gf_scalar.md R140). -/
theorem timesXPow_eight (a : Byte) :
    timesXPow a 8 = timesXPow a 0 ^^^ timesXPow a 2 ^^^ timesXPow a 3 ^^^ timesXPow a 4 := by
  revert a
  decide +kernel

/-! ### The product of polynomials -/

theorem fieldProduct_zero_left (b : Byte) : fieldProduct 0 b = 0 := by
  simp [fieldProduct]

theorem fieldProduct_zero_right (a : Byte) : fieldProduct a 0 = 0 := by
  simp [fieldProduct]

theorem fieldProduct_one (a : Byte) : fieldProduct a 1 = a := by
  simp [fieldProduct, xorSum_succ, timesXPow]

theorem fieldProduct_xor (a b c : Byte) : fieldProduct a (b ^^^ c) = fieldProduct a b ^^^ fieldProduct a c := by
  have hterm : ∀ (p q : Bool) (t : Byte),
      (if (p ^^ q) then t else 0) = (if p then t else 0) ^^^ (if q then t else 0) := by
    intro p q t
    cases p <;> cases q <;> simp
  simp only [fieldProduct, BitVec.getLsbD_xor, hterm, xorSum_xor]

/-- Multiplication by the polynomial's lower part is multiplication by x^8. -/
theorem fieldProduct_lower (a : Byte) : fieldProduct a 0x1D#8 = timesXPow a 8 := by
  rw [timesXPow_eight]
  simp [fieldProduct, xorSum_succ, BitVec.xor_assoc]

/-- Without the top bit of `b`, which the shift drops. -/
theorem fieldProduct_shiftLeft (a b : Byte) :
    fieldProduct a (b <<< 1) = xorSum 7 (fun j => if b.getLsbD j then timesXPow a (j + 1) else 0) := by
  rw [fieldProduct, xorSum_succ, BitVec.getLsbD_shiftLeft]
  refine (BitVec.zero_xor).trans (xorSum_congr fun j hj => ?_)
  have hj' : j + 1 < 8 := by omega
  simp [hj', -BitVec.getLsbD_eq_getElem]

theorem timesX_fieldProduct (a b : Byte) :
    timesX (fieldProduct a b) = xorSum 8 (fun j => if b.getLsbD j then timesXPow a (j + 1) else 0) := by
  rw [fieldProduct, timesX_xorSum]
  refine xorSum_congr fun j _ => ?_
  split
  · rfl
  · exact timesX_zero

/-- Reduction drops the top bit of the shifted `b` and adds the polynomial's lower part, which is that bit's multiple of
x^8. -/
theorem fieldProduct_timesX (a b : Byte) : fieldProduct a (timesX b) = timesX (fieldProduct a b) := by
  rw [timesX, fieldProduct_xor, fieldProduct_shiftLeft, timesX_fieldProduct, xorSum_succ_last 7]
  congr 1
  split
  · exact fieldProduct_lower a
  · exact fieldProduct_zero_right a

theorem fieldProduct_timesXPow (a b : Byte) (j : Nat) :
    fieldProduct a (timesXPow b j) = timesXPow (fieldProduct a b) j := by
  induction j with
  | zero => rfl
  | succ j ih => rw [timesXPow, fieldProduct_timesX, ih, timesXPow]

/-! ### The tables (42_gf_scalar.md R141, R142) -/

theorem gfExp_add_255 {i : Nat} (hi : i < 256) : gfExp (i + 255) = gfExp i := by
  cases i with
  | zero => decide
  | succ i => rw [gfExp, if_neg (by omega), gfExp, if_pos hi, Nat.add_sub_cancel]

/-- The rows of EXP follow the recurrence; beyond them the table repeats with period 255. -/
theorem gfExp_succ {i : Nat} (hi : i < 510) : gfExp (i + 1) = timesX (gfExp i) := by
  have hrows : ∀ i < 255, gfExp (i + 1) = timesX (gfExp i) := by decide +kernel
  obtain hlow | hhigh := Nat.lt_or_ge i 255
  · exact hrows i hlow
  · obtain ⟨j, rfl⟩ := Nat.exists_eq_add_of_le' hhigh
    rw [Nat.add_right_comm, gfExp_add_255 (by omega), gfExp_add_255 (by omega), hrows j (by omega)]

theorem gfExp_eq_timesXPow {i : Nat} (hi : i < 511) : gfExp i = timesXPow 1 i := by
  induction i with
  | zero => rfl
  | succ i ih => rw [gfExp_succ (by omega), ih (by omega), timesXPow]

theorem gfExp_ne_zero {i : Nat} (hi : i < 255) : gfExp i ≠ 0 := by
  have hrows : ∀ i < 255, gfExp i ≠ 0 := by decide +kernel
  exact hrows i hi

theorem gfLog_gfExp {i : Nat} (hi : i < 255) : gfLog (gfExp i) = i := by
  have hrows : ∀ i < 255, gfLog (gfExp i) = i := by decide +kernel
  exact hrows i hi

theorem gfLog_lt (x : Byte) : gfLog x < 255 := by
  revert x
  decide +kernel

theorem gfExp_gfLog {x : Byte} (hx : x ≠ 0) : gfExp (gfLog x) = x := by
  have hrows : ∀ x : Byte, x ≠ 0 → gfExp (gfLog x) = x := by decide +kernel
  exact hrows x hx

/-- Every nonzero byte is a power of x. -/
theorem exists_gfExp_eq {x : Byte} (hx : x ≠ 0) : ∃ i < 255, gfExp i = x :=
  ⟨gfLog x, gfLog_lt x, gfExp_gfLog hx⟩

/-! ### The product and the quotient by tables (42_gf_scalar.md R143) -/

theorem gfMul_zero_left (b : Byte) : gfMul 0 b = 0 := if_pos (.inl rfl)

theorem gfMul_zero_right (a : Byte) : gfMul a 0 = 0 := if_pos (.inr rfl)

theorem gfMul_comm (a b : Byte) : gfMul a b = gfMul b a := by
  simp only [gfMul, or_comm, Nat.add_comm]

theorem gfMul_gfExp {i j : Nat} (hi : i < 255) (hj : j < 255) : gfMul (gfExp i) (gfExp j) = gfExp (i + j) := by
  rw [gfMul, if_neg (not_or.mpr ⟨gfExp_ne_zero hi, gfExp_ne_zero hj⟩), gfLog_gfExp hi, gfLog_gfExp hj]

theorem gfDiv_gfExp {i j : Nat} (hi : i < 255) (hj : j < 255) :
    gfDiv (gfExp i) (gfExp j) = gfExp (i + 255 - j) := by
  rw [gfDiv, if_neg (gfExp_ne_zero hi), gfLog_gfExp hi, gfLog_gfExp hj]

/-- Multiplication by a power of x. -/
theorem fieldProduct_gfExp (a : Byte) {j : Nat} (hj : j < 511) : fieldProduct a (gfExp j) = timesXPow a j := by
  rw [gfExp_eq_timesXPow hj, fieldProduct_timesXPow, fieldProduct_one]

theorem gfMul_eq_fieldProduct (a b : Byte) : gfMul a b = fieldProduct a b := by
  by_cases ha : a = 0
  · rw [ha, gfMul_zero_left, fieldProduct_zero_left]
  by_cases hb : b = 0
  · rw [hb, gfMul_zero_right, fieldProduct_zero_right]
  obtain ⟨i, hi, rfl⟩ := exists_gfExp_eq ha
  obtain ⟨j, hj, rfl⟩ := exists_gfExp_eq hb
  rw [gfMul_gfExp hi hj, fieldProduct_gfExp _ (by omega), gfExp_eq_timesXPow (by omega), gfExp_eq_timesXPow (by omega),
    timesXPow_timesXPow]

/-- The quotient's exponent is the difference modulo 255, the period of EXP. -/
theorem gfMul_gfDiv {a : Byte} (b : Byte) (ha : a ≠ 0) : gfMul a (gfDiv b a) = b := by
  by_cases hb : b = 0
  · rw [hb, gfDiv, if_pos rfl, gfMul_zero_right]
  obtain ⟨i, hi, rfl⟩ := exists_gfExp_eq ha
  obtain ⟨j, hj, rfl⟩ := exists_gfExp_eq hb
  rw [gfDiv_gfExp hj hi]
  obtain hle | hlt := le_or_gt i j
  · rw [Nat.sub_add_comm hle, gfExp_add_255 (by omega), gfMul_gfExp hi (by omega), Nat.add_sub_cancel' hle]
  · rw [gfMul_gfExp hi (by omega), Nat.add_sub_cancel' (by omega), gfExp_add_255 (by omega)]

/-! ### The statements about the field -/

/-- The recurrence of 42_gf_scalar.md R141, on 9 bits, is multiplication by x. -/
theorem setWidth_timesX (a : Byte) :
    (timesX a).setWidth 9 = (a.setWidth 9 <<< 1) ^^^ (if a.getLsbD 7 then 0x11D#9 else 0#9) := by
  revert a
  decide +kernel

/-- Settles O34: EXP's recurrence is multiplication by x, and LOG is a two-sided inverse of EXP on 0..254. -/
theorem fieldTables : Obligations.FieldTables := by
  refine ⟨rfl, fun i hi => ?_, fun x hx => ?_⟩
  · rw [gfExp_succ hi, setWidth_timesX]
  · refine ⟨gfLog_lt x, gfExp_gfLog hx, fun i hi hix => ?_⟩
    rw [← hix, gfLog_gfExp hi]

/-- Settles O35: nonzero bytes are powers of x, whose product by tables and as polynomials is the power of the sum. -/
theorem fieldIsGF256 : Obligations.FieldIsGF256 :=
  ⟨gfMul_eq_fieldProduct, fun _ _ => rfl, fun _ hi => gfExp_eq_timesXPow hi⟩

/-- Settles O36: sums of logarithms commute, and the logarithm of a quotient is their difference modulo 255. -/
theorem fieldLaws : Obligations.FieldLaws := by
  refine ⟨gfMul_comm, fun a b ha => gfMul_gfDiv b ha, fun a => BitVec.xor_self, fun a ha => ?_⟩
  rw [gfPow, if_neg ha, Nat.mul_zero]
  rfl

end Sys2Proof.Machine
end

section
/-! SUPPORT. The scalar field commands (42_gf_scalar.md section 2): the outcome of each case by case, and that no
command but GF_DIV ends with DIVIDE_BY_ZERO. -/

namespace Sys2Proof.Machine

open Sys2Proof.Rules

/-! ### The outcomes of the commands (42_gf_scalar.md R146 to R149) -/

theorem exec_gfPow (s : State) :
    exec .gfPow s = .next { ended s .ok with
      res0 := (gfPow (s.latch.a0.extractLsb' 0 8) s.latch.a1.toNat).setWidth 32 } :=
  rfl

section

variable {s : State}

theorem exec_gfDiv_of_zero (h : s.latch.a1.extractLsb' 0 8 = 0) : exec .gfDiv s = .next (ended s .divideByZero) :=
  congrArg (done s) (if_pos h)

theorem exec_gfDiv_of_ne_zero (h : s.latch.a1.extractLsb' 0 8 ≠ 0) :
    exec .gfDiv s = .next { ended s .ok with
      res0 := (gfDiv (s.latch.a0.extractLsb' 0 8) (s.latch.a1.extractLsb' 0 8)).setWidth 32 } :=
  congrArg (done s) (if_neg h)

theorem exec_gfExp_of_range (h : 510 < s.latch.a0.toNat) : exec .gfExp s = .next (ended s .outOfRange) :=
  congrArg (done s) (if_pos h)

theorem exec_gfExp_of_le (h : s.latch.a0.toNat ≤ 510) :
    exec .gfExp s = .next { ended s .ok with res0 := (gfExp s.latch.a0.toNat).setWidth 32 } :=
  congrArg (done s) (if_neg (Nat.not_lt.mpr h))

theorem exec_gfLog_of_zero (h : s.latch.a0.extractLsb' 0 8 = 0) : exec .gfLog s = .next (ended s .outOfRange) :=
  congrArg (done s) (if_pos h)

theorem exec_gfLog_of_ne_zero (h : s.latch.a0.extractLsb' 0 8 ≠ 0) :
    exec .gfLog s = .next { ended s .ok with res0 := BitVec.ofNat 32 (gfLog (s.latch.a0.extractLsb' 0 8)) } :=
  congrArg (done s) (if_neg h)

end

/-! ### DIVIDE_BY_ZERO (60_exceptions.md R267) -/

/-- The outcome `r` is not the error DIVIDE_BY_ZERO. -/
def Effect.NoDivideByZero (r : Effect) : Prop := r ≠ .error .divideByZero

namespace Effect.NoDivideByZero

theorem ok (u : State) : Effect.NoDivideByZero (.ok u) := nofun

theorem error {e : ErrCode} (he : e ≠ .divideByZero := by decide) : Effect.NoDivideByZero (.error e) :=
  fun h => he (Except.error.inj h)

/-- A check that ends the command with another code. -/
theorem check {p : Prop} [Decidable p] {e : ErrCode} {r : Effect} (hr : Effect.NoDivideByZero r)
    (he : e ≠ .divideByZero := by decide) : Effect.NoDivideByZero (if p then .error e else r) := by
  split
  · exact error he
  · exact hr

/-- The completion of such an outcome. -/
theorem err_ne {s t : State} {r : Effect} (hr : Effect.NoDivideByZero r) (h : done s r = .next t) :
    t.err ≠ .divideByZero := by
  obtain ⟨u, -, rfl⟩ | ⟨e, rfl, rfl⟩ := done_cases s t r h
  · exact nofun
  · exact fun he => hr (congrArg _ he)

end Effect.NoDivideByZero

/-- The codes of every other command's checks. -/
theorem err_ne_divideByZero {i : Instr} {s t : State} (hi : i ≠ .gfDiv) (h : exec i s = .next t) :
    t.err ≠ .divideByZero := by
  suffices hr : ∃ r, exec i s = done s r ∧ Effect.NoDivideByZero r by
    obtain ⟨r, hdone, hr⟩ := hr
    exact hr.err_ne (hdone.symm.trans h)
  clear h
  cases i
  case gfDiv => contradiction
  case nop | bbClear b | bbCount b | bbEqual | gfAdd | gfMul | gfPow | plAdd | plMul => exact ⟨_, rfl, .ok _⟩
  case bbGetbit b | bbSetbit b | bbRdbyte b | gfExp | gfLog | plDiv | plMovra | fmLoad | matInit =>
    exact ⟨_, rfl, .check (.ok _)⟩
  case bbRead b | fmQuery | fmRowcnt | matRead | matWrite | place b => exact ⟨_, rfl, .check (.check (.ok _))⟩
  case bbWrite b => exact ⟨_, rfl, .check (.check (.check (.ok _)))⟩
  case plGen =>
    refine ⟨_, rfl, ?_⟩
    cases generator s.int0 with
    | none => exact .error
    | some g => exact .ok _
  case plGetlen =>
    refine ⟨_, rfl, ?_⟩
    cases polySel s.int0 with
    | none => exact .error
    | some p => exact .ok _
  case plRead =>
    refine ⟨_, rfl, ?_⟩
    cases polySel s.int0 with
    | none => exact .error
    | some p => exact .check (.ok _)
  case plSetlen | plWrite =>
    refine ⟨_, rfl, ?_⟩
    cases operandSel s.int0 with
    | none => exact .error
    | some p => exact .check (.ok _)
  case fmRowrange =>
    refine ⟨_, rfl, .check (.check ?_)⟩
    cases (rowRanges s.int0 s.int1)[s.int2]? with
    | none => exact .error
    | some r => exact .ok _
  case rsEncode b =>
    refine ⟨_, rfl, ?_⟩
    cases generator s.int0 with
    | none => exact .error
    | some g => exact .check (.check (.check (.check (.check (.ok _)))))

/-- A command that ends with DIVIDE_BY_ZERO is GF_DIV by 0. -/
theorem of_exec_divideByZero {i : Instr} {s t : State} (h : exec i s = .next t) (ht : t.err = .divideByZero) :
    i = .gfDiv ∧ s.latch.a1.extractLsb' 0 8 = 0 := by
  by_cases hi : i = .gfDiv
  case neg => exact absurd ht (err_ne_divideByZero hi h)
  subst hi
  by_cases hb : s.latch.a1.extractLsb' 0 8 = 0
  · exact ⟨rfl, hb⟩
  · cases (exec_gfDiv_of_ne_zero hb).symm.trans h
    exact nomatch ht

/-! ### The statements about the commands -/

/-- Settles O37: none of the three has a check, and RES0 is the function of the two bytes, or of a byte and all of
ARG1. -/
theorem gfAddMulPowResults : Obligations.GfAddMulPowResults := by
  refine ⟨encodeThenDecode .gfAdd, encodeThenDecode .gfMul, encodeThenDecode .gfPow, fun s => ⟨rfl, rfl, ?_⟩⟩
  rw [exec_gfPow, gfPow, ite_not]
  rfl

/-- Settles O38: each of the three is one check and then its function, and only GF_DIV's check has the code
DIVIDE_BY_ZERO. -/
theorem gfDivExpLogResults : Obligations.GfDivExpLogResults :=
  ⟨encodeThenDecode .gfDiv, encodeThenDecode .gfExp, encodeThenDecode .gfLog,
    fun _ => ⟨exec_gfDiv_of_zero, exec_gfDiv_of_ne_zero, exec_gfExp_of_range, exec_gfExp_of_le, exec_gfLog_of_zero,
      exec_gfLog_of_ne_zero⟩,
    fun _ _ _ => of_exec_divideByZero⟩

end Sys2Proof.Machine
end

section
/-! SUPPORT. Polynomials over GF(2^8) (43_gf_poly.md): the coefficients of a sum, a product and a quotient with its
remainder, those of a polynomial memory, and the generator ROM. A sequence reads as 0 beyond its end, so that one
equation holds at every place. -/

namespace Sys2Proof.Machine

open Sys2Proof.Rules

/-! ### Sums and coefficient sequences -/

theorem xorSum_ite_lt (n m : Nat) (f : Nat → Byte) :
    xorSum n (fun i => if i < m then f i else 0) = xorSum (min n m) f := by
  induction n with
  | zero => rw [Nat.zero_min]; rfl
  | succ n ih =>
    rw [xorSum_succ_last, ih]
    obtain hlt | hle := Nat.lt_or_ge n m
    · rw [if_pos hlt, Nat.min_eq_left hlt.le, Nat.min_eq_left hlt, xorSum_succ_last]
    · rw [if_neg (Nat.not_lt.mpr hle), Nat.min_eq_right hle, Nat.min_eq_right (by omega)]
      exact BitVec.xor_zero

theorem xorAll_map_range (n : Nat) (f : Nat → Byte) : xorAll ((List.range n).map f) = xorSum n f := by
  rw [xorSum]
  induction List.range n with
  | nil => rfl
  | cons i is ih => rw [List.map_cons, xorAll, ih, List.foldr_cons]

theorem getD_map_range {n i : Nat} (f : Nat → Byte) (hi : i < n) : ((List.range n).map f).getD i 0 = f i := by
  simp [hi]

theorem getD_append_replicate_zero (p : List Byte) (n i : Nat) :
    (p ++ List.replicate n 0).getD i 0 = p.getD i 0 := by
  obtain hlt | hge := Nat.lt_or_ge i p.length
  · exact List.getD_append _ _ _ _ hlt
  · rw [List.getD_append_right _ _ _ _ hge, List.getD_eq_default p _ hge]
    exact List.getElem?_getD_replicate_default_eq 0 _ _

theorem getD_tail (p : List Byte) (i : Nat) : p.tail.getD i 0 = p.getD (i + 1) 0 := by
  cases p <;> rfl

theorem eq_xor_of_eq_xor {a x y : Byte} (h : x = a ^^^ y) : a = y ^^^ x := by
  rw [h, BitVec.xor_comm a, ← BitVec.xor_assoc, BitVec.xor_self, BitVec.zero_xor]

theorem gfMul_one (a : Byte) : gfMul a 1 = a := by
  rw [gfMul_eq_fieldProduct, fieldProduct_one]

/-! ### Coefficients of a sum and of a product (43_gf_poly.md R165, R166) -/

theorem getD_polyAdd (p q : List Byte) {i : Nat} (hi : i < (polyAdd p q).length) :
    (polyAdd p q).getD i 0 =
      alignedCoef p (polyAdd p q).length i ^^^ alignedCoef q (polyAdd p q).length i := by
  rw [length_polyAdd] at hi ⊢
  exact getD_map_range _ hi

/-- The two conditions of R166 leave out only terms with a factor beyond its operand's end. -/
theorem convCoef_eq_xorSum (p q : List Byte) (k : Nat) :
    convCoef p q k = xorSum (k + 1) (fun i => gfMul (p.getD i 0) (q.getD (k - i) 0)) := by
  have hleft : ∀ i, (if i ≤ k ∧ k - i < q.length then gfMul (p.getD i 0) (q.getD (k - i) 0) else 0) =
      if i < k + 1 then gfMul (p.getD i 0) (q.getD (k - i) 0) else 0 := by
    intro i
    by_cases hq : k - i < q.length
    · simp only [hq, and_true, Nat.lt_succ_iff]
    · rw [if_neg (fun h => hq h.2), List.getD_eq_default q _ (by omega), gfMul_zero_right, ite_self]
  have hright : ∀ i, gfMul (p.getD i 0) (q.getD (k - i) 0) =
      if i < p.length then gfMul (p.getD i 0) (q.getD (k - i) 0) else 0 := by
    intro i
    split
    · rfl
    · rw [List.getD_eq_default p _ (by omega), gfMul_zero_left]
  calc convCoef p q k
      = xorSum p.length (fun i => if i < k + 1 then gfMul (p.getD i 0) (q.getD (k - i) 0) else 0) := by
        rw [convCoef, xorAll_map_range, xorSum_congr fun i _ => hleft i]
    _ = xorSum (k + 1) (fun i => if i < p.length then gfMul (p.getD i 0) (q.getD (k - i) 0) else 0) := by
        rw [xorSum_ite_lt, xorSum_ite_lt, Nat.min_comm]
    _ = xorSum (k + 1) (fun i => gfMul (p.getD i 0) (q.getD (k - i) 0)) :=
        xorSum_congr fun i _ => (hright i).symm

theorem getD_polyMul (p q : List Byte) {k : Nat} (hk : k < (polyMul p q).length) :
    (polyMul p q).getD k 0 = xorSum (k + 1) (fun i => gfMul (p.getD i 0) (q.getD (k - i) 0)) := by
  by_cases hempty : p.length = 0 ∨ q.length = 0
  · rw [polyMul_empty p q hempty] at hk
    exact absurd hk (Nat.not_lt_zero k)
  obtain ⟨hp, hq⟩ := not_or.mp hempty
  rw [length_polyMul p q hp hq] at hk
  rw [polyMul, if_neg hempty, getD_map_range _ hk, convCoef_eq_xorSum]

/-! ### Coefficients of a quotient and remainder (43_gf_poly.md R167) -/

theorem getD_subScaled (c : Byte) (r b : List Byte) {k : Nat} (hk : k < r.length) :
    (subScaled c r b).getD k 0 = r.getD k 0 ^^^ gfMul (b.getD k 0) c := by
  induction r generalizing b k with
  | nil => exact absurd hk (Nat.not_lt_zero k)
  | cons x r ih =>
    cases b with
    | nil => rw [List.getD_nil, gfMul_zero_left]; exact BitVec.xor_zero.symm
    | cons y b =>
      cases k with
      | zero => rfl
      | succ k => exact ih b (Nat.lt_of_succ_lt_succ hk)

/-- Where c = 0 the model skips the subtraction, of multiples that are 0. -/
theorem getD_divStep (c : Byte) (r b : List Byte) {k : Nat} (hk : k < r.length) :
    (if c ≠ 0 then subScaled c r b else r).getD k 0 = r.getD k 0 ^^^ gfMul (b.getD k 0) c := by
  by_cases hc : c = 0
  · rw [if_neg (not_not.mpr hc), hc, gfMul_zero_right]; exact BitVec.xor_zero.symm
  · rw [if_pos hc, getD_subScaled c r b hk]

/-- Place k ends as its start value less the multiple of `tail` that each earlier of the `n` positions subtracts. -/
theorem getD_divSteps (tail : List Byte) (n : Nat) (r : List Byte) {k : Nat} (hk : k < r.length) :
    (divSteps tail n r).getD k 0 = r.getD k 0 ^^^ xorSum k (fun i =>
      if i < n then gfMul (tail.getD (k - i - 1) 0) ((divSteps tail n r).getD i 0) else 0) := by
  induction n generalizing r k with
  | zero =>
    simp only [Nat.not_lt_zero, if_false]
    exact ((congrArg _ (xorSum_const_zero k)).trans BitVec.xor_zero).symm
  | succ n ih =>
    cases r with
    | nil => exact absurd hk (Nat.not_lt_zero k)
    | cons c r =>
      cases k with
      | zero => exact BitVec.xor_zero.symm
      | succ k =>
        have hk' : k < r.length := Nat.lt_of_succ_lt_succ hk
        have hstep : k < (if c ≠ 0 then subScaled c r tail else r).length := by
          split
          · rwa [length_subScaled]
          · exact hk'
        have hrest := ih _ hstep
        rw [getD_divStep c r tail hk', BitVec.xor_assoc] at hrest
        rw [xorSum_succ, if_pos (Nat.succ_pos n)]
        simp only [divSteps, List.getD_cons_succ, List.getD_cons_zero, Nat.add_lt_add_iff_right,
          Nat.add_sub_add_right, Nat.sub_zero, Nat.add_sub_cancel]
        exact hrest

theorem getD_polyDiv (p q : List Byte) {k : Nat} (hk : k < (polyDiv p q).length) :
    (polyDiv p q).getD k 0 = p.getD k 0 ^^^ xorSum k (fun i =>
      if i < p.length then gfMul (q.getD (k - i) 0) ((polyDiv p q).getD i 0) else 0) := by
  rw [polyDiv, length_divSteps] at hk
  rw [polyDiv, getD_divSteps _ _ _ hk, getD_append_replicate_zero]
  congr 1
  refine xorSum_congr fun i hi => ?_
  rw [getD_tail, Nat.sub_add_cancel (by omega)]

/-! ### Coefficients of a polynomial memory (10_state.md R40) -/

theorem Poly.getD_coeffs (p : Poly) (i : Nat) : p.coeffs.getD i 0 = if i < p.len then p.coef.read i else 0 := by
  split
  · rw [Poly.coeffs, Memory.getD_readBytes _ _ _ _ ‹_›, Nat.zero_add]
  · exact List.getD_eq_default _ _ (by rw [Poly.length_coeffs]; omega)

theorem Poly.alignedCoef_coeffs (p : Poly) {len i : Nat} (hp : p.len ≤ len) (hi : i < len) :
    alignedCoef p.coeffs len i = if len - p.len ≤ i then p.coef.read (i - (len - p.len)) else 0 := by
  rw [alignedCoef, Poly.length_coeffs]
  split
  · rw [Poly.getD_coeffs, if_pos (by omega)]
  · rfl

theorem Poly.gfMul_coeffs (p q : Poly) (i j : Nat) :
    gfMul (p.coeffs.getD i 0) (q.coeffs.getD j 0) =
      if i < p.len ∧ j < q.len then gfMul (p.coef.read i) (q.coef.read j) else 0 := by
  rw [Poly.getD_coeffs, Poly.getD_coeffs]
  by_cases hi : i < p.len
  · by_cases hj : j < q.len
    · rw [if_pos hi, if_pos hj, if_pos ⟨hi, hj⟩]
    · rw [if_neg hj, gfMul_zero_right, if_neg fun h => hj h.2]
  · rw [if_neg hi, gfMul_zero_left, if_neg fun h => hi h.1]

theorem Poly.read_load_of_lt (p : Poly) (cs : List Byte) {i : Nat} (hi : i < cs.length) :
    (p.load cs).coef.read i = cs.getD i 0 := by
  rw [Poly.read_load, if_pos hi]

theorem Poly.read_load_of_le (p : Poly) (cs : List Byte) {i : Nat} (hi : cs.length ≤ i) :
    (p.load cs).coef.read i = p.coef.read i := by
  rw [Poly.read_load, if_neg (Nat.not_lt.mpr hi)]

/-! ### The generator ROM (43_gf_poly.md R168, R170) -/

theorem map_fst_generatorRom : generatorRom.map Prod.fst = supportedEc := rfl

theorem generator_eq_none_iff (n : Nat) : generator n = none ↔ n ∉ supportedEc := by
  rw [generator, List.lookup_eq_none_iff, ← map_fst_generatorRom]
  constructor
  · intro hother hmem
    obtain ⟨row, hrow, rfl⟩ := List.mem_map.mp hmem
    exact bne_iff_ne.mp (hother row hrow) rfl
  · intro hn row hrow
    exact bne_iff_ne.mpr fun heq => hn (heq ▸ List.mem_map_of_mem hrow)

theorem exists_generator {n : Nat} (hn : n ∈ supportedEc) : ∃ g, generator n = some g :=
  Option.ne_none_iff_exists'.mp fun hnone => (generator_eq_none_iff n).mp hnone hn

theorem shape_of_generator {n : Nat} {g : List Byte} (h : generator n = some g) :
    g.length = n + 1 ∧ g.head? = some 1 := by
  have hrom : ∀ row ∈ generatorRom, row.2.length = row.1 + 1 ∧ row.2.head? = some 1 := by decide
  obtain ⟨l₁, l₂, hl, -⟩ := List.lookup_eq_some_iff.mp h
  exact hrom (n, g) (by simp [hl])

/-- A comparison of two closed tables: the 13 rows, and the products they stand for. -/
theorem generator_eq_product : ∀ n ∈ supportedEc,
    generator n = some ((List.range n).foldl (fun g i => polyMul g [1, gfExp i]) [1]) := by
  decide +kernel

/-- Settles O46: the 13 rows of the ROM are evaluated against the products, and no other count has a row. -/
theorem generatorRomProducts : Obligations.GeneratorRomProducts :=
  ⟨generator_eq_product, fun _ _ _ => shape_of_generator, fun n => (generator_eq_none_iff n).mpr⟩

end Sys2Proof.Machine
end

section
/-! SUPPORT. The polynomial commands (43_gf_poly.md sections 1 and 2): the outcome of each, case by case, and the
identity of division by a monic polynomial (section 4). -/

namespace Sys2Proof.Machine

open Sys2Proof.Rules

/-! ### Selectors (43_gf_poly.md R160) -/

theorem operandSel_of_le {sel : Nat} (h : 2 ≤ sel) : operandSel sel = none :=
  (if_neg (by omega)).trans (if_neg (by omega))

theorem exists_operandSel {sel : Nat} (h : sel < 2) : ∃ p, operandSel sel = some p := by
  obtain rfl | rfl : sel = 0 ∨ sel = 1 := by omega
  · exact ⟨.pa, rfl⟩
  · exact ⟨.pb, rfl⟩

theorem polySel_of_le {sel : Nat} (h : 3 ≤ sel) : polySel sel = none :=
  (if_neg (by omega)).trans ((if_neg (by omega)).trans (if_neg (by omega)))

/-- The memory a selector of PL_READ or PL_GETLEN names. -/
theorem exists_polySel {s : State} {sel : Nat} {p : Poly}
    (h : (sel = 0 ∧ p = s.pa) ∨ (sel = 1 ∧ p = s.pb) ∨ (sel = 2 ∧ p = s.pr)) :
    ∃ q, polySel sel = some q ∧ s.poly q = p := by
  obtain ⟨rfl, rfl⟩ | ⟨rfl, rfl⟩ | ⟨rfl, rfl⟩ := h
  · exact ⟨.pa, rfl, rfl⟩
  · exact ⟨.pb, rfl, rfl⟩
  · exact ⟨.pr, rfl, rfl⟩

/-! ### The outcomes of the commands (43_gf_poly.md R161 to R169) -/

section

variable {s : State} {q : PolySel}

theorem exec_plSetlen_of_invalid (hsel : operandSel s.int0 = none) :
    exec .plSetlen s = .next (ended s .invalidArgument) := by
  rw [exec, execPlSetlen, hsel]
  rfl

theorem exec_plSetlen_of_range (hsel : operandSel s.int0 = some q) (h : 256 < s.int1) :
    exec .plSetlen s = .next (ended s .outOfRange) := by
  rw [exec, execPlSetlen, hsel]
  exact congrArg (done s) (if_pos h)

theorem exec_plSetlen_of_le (hsel : operandSel s.int0 = some q) (h : s.int1 ≤ 256) :
    exec .plSetlen s = .next ((s.setPoly q { s.poly q with len := s.int1 }).complete .ok) := by
  rw [exec, execPlSetlen, hsel]
  exact congrArg (done s) (if_neg (Nat.not_lt.mpr h))

theorem exec_plWrite_of_invalid (hsel : operandSel s.int0 = none) :
    exec .plWrite s = .next (ended s .invalidArgument) := by
  rw [exec, execPlWrite, hsel]
  rfl

theorem exec_plWrite_of_range (hsel : operandSel s.int0 = some q) (h : 256 ≤ s.int1) :
    exec .plWrite s = .next (ended s .outOfRange) := by
  rw [exec, execPlWrite, hsel]
  exact congrArg (done s) (if_pos h)

theorem exec_plWrite_of_lt (hsel : operandSel s.int0 = some q) (h : s.int1 < 256) :
    exec .plWrite s = .next
      ((s.setPoly q { s.poly q with coef := (s.poly q).coef.write s.int1 s.elem2 }).complete .ok) := by
  rw [exec, execPlWrite, hsel]
  exact congrArg (done s) (if_neg (Nat.not_le.mpr h))

theorem exec_plRead_of_invalid (hsel : polySel s.int0 = none) :
    exec .plRead s = .next (ended s .invalidArgument) := by
  rw [exec, execPlRead, hsel]
  rfl

theorem exec_plRead_of_range (hsel : polySel s.int0 = some q) (h : (s.poly q).len ≤ s.int1) :
    exec .plRead s = .next (ended s .outOfRange) := by
  rw [exec, execPlRead, hsel]
  exact congrArg (done s) (if_pos h)

theorem exec_plRead_of_lt (hsel : polySel s.int0 = some q) (h : s.int1 < (s.poly q).len) :
    exec .plRead s = .next { ended s .ok with res0 := ((s.poly q).coef.read s.int1).setWidth 32 } := by
  rw [exec, execPlRead, hsel]
  exact congrArg (done s) (if_neg (Nat.not_le.mpr h))

theorem exec_plGetlen_of_invalid (hsel : polySel s.int0 = none) :
    exec .plGetlen s = .next (ended s .invalidArgument) := by
  rw [exec, execPlGetlen, hsel]
  rfl

theorem exec_plGetlen_of_some (hsel : polySel s.int0 = some q) :
    exec .plGetlen s = .next { ended s .ok with res0 := BitVec.ofNat 32 (s.poly q).len } := by
  rw [exec, execPlGetlen, hsel]
  rfl

theorem exec_plAdd (s : State) :
    exec .plAdd s = .next { ended s .ok with pr := s.pr.load (polyAdd s.pa.coeffs s.pb.coeffs) } :=
  rfl

theorem exec_plMul (s : State) :
    exec .plMul s = .next { ended s .ok with pr := s.pr.load (polyMul s.pa.coeffs s.pb.coeffs) } :=
  rfl

theorem exec_plDiv_of_empty (h : s.pb.len = 0) : exec .plDiv s = .next (ended s .invalidArgument) :=
  congrArg (done s) (if_pos h)

theorem exec_plDiv_of_nonempty (h : s.pb.len ≠ 0) :
    exec .plDiv s = .next { ended s .ok with
      pr := s.pr.load (polyDiv s.pa.coeffs s.pb.coeffs)
      res0 := BitVec.ofNat 32 s.pa.len, res1 := BitVec.ofNat 32 (s.pb.len - 1) } :=
  congrArg (done s) (if_neg h)

theorem exec_plGen_of_none (h : generator s.int0 = none) : exec .plGen s = .next (ended s .notSupported) := by
  rw [exec, execPlGen, h]
  rfl

theorem exec_plGen_of_some {g : List Byte} (h : generator s.int0 = some g) :
    exec .plGen s = .next { ended s .ok with pb := s.pb.load g } := by
  rw [exec, execPlGen, h]
  rfl

theorem exec_plMovra_of_range (h : 256 < s.pr.len) : exec .plMovra s = .next (ended s .outOfRange) :=
  congrArg (done s) (if_pos h)

theorem exec_plMovra_of_le (h : s.pr.len ≤ 256) :
    exec .plMovra s = .next { ended s .ok with pa := s.pa.load s.pr.coeffs } :=
  congrArg (done s) (if_neg (Nat.not_lt.mpr h))

end

/-! ### The statements -/

/-- Settles O39: both commands check the selector and then their bound, and replace a length or one coefficient. -/
theorem plSetlenWriteResults : Obligations.PlSetlenWriteResults := by
  refine ⟨encodeThenDecode .plSetlen, encodeThenDecode .plWrite, fun s =>
    ⟨fun hsel => ?_, fun hsel hlen => ?_, fun hsel hidx => ?_, fun hsel => ?_, fun hsel => ?_, fun hsel hidx => ?_,
      fun hsel hidx => ?_⟩⟩
  · have hnone := operandSel_of_le hsel
    exact ⟨exec_plSetlen_of_invalid hnone, exec_plWrite_of_invalid hnone⟩
  · obtain ⟨p, hp⟩ := exists_operandSel hsel
    exact exec_plSetlen_of_range hp hlen
  · obtain ⟨p, hp⟩ := exists_operandSel hsel
    exact exec_plWrite_of_range hp hidx
  · exact exec_plSetlen_of_le (congrArg operandSel hsel)
  · exact exec_plSetlen_of_le (congrArg operandSel hsel)
  · exact ⟨_, exec_plWrite_of_lt (congrArg operandSel hsel) hidx, rfl, fun i => Memory.read_write _ _ _ _⟩
  · exact ⟨_, exec_plWrite_of_lt (congrArg operandSel hsel) hidx, rfl, fun i => Memory.read_write _ _ _ _⟩

/-- Settles O40: both commands check the selector, and PL_READ also the index against the selected length. -/
theorem plReadGetlenResults : Obligations.PlReadGetlenResults := by
  refine ⟨encodeThenDecode .plRead, encodeThenDecode .plGetlen, fun s => ⟨fun hsel => ?_, fun p hp => ?_⟩⟩
  · have hnone := polySel_of_le hsel
    exact ⟨exec_plRead_of_invalid hnone, exec_plGetlen_of_invalid hnone⟩
  · obtain ⟨q, hq, rfl⟩ := exists_polySel hp
    exact ⟨exec_plGetlen_of_some hq, exec_plRead_of_range hq, exec_plRead_of_lt hq⟩

/-- Settles O41: PR is loaded with the aligned sum. -/
theorem plAddResult : Obligations.PlAddResult := by
  refine ⟨encodeThenDecode .plAdd, fun s => ?_⟩
  have hlen : (polyAdd s.pa.coeffs s.pb.coeffs).length = max s.pa.len s.pb.len := by
    rw [length_polyAdd, Poly.length_coeffs, Poly.length_coeffs]
  refine ⟨_, exec_plAdd s, hlen, fun i hi => ?_, fun i hi => Poly.read_load_of_le _ _ hi⟩
  rw [Poly.len_load] at hi ⊢
  rw [Poly.read_load_of_lt _ _ hi, getD_polyAdd _ _ hi,
    Poly.alignedCoef_coeffs _ (by omega) hi, Poly.alignedCoef_coeffs _ (by omega) hi]

/-- Settles O42: PR is loaded with the convolution. -/
theorem plMulResult : Obligations.PlMulResult := by
  refine ⟨encodeThenDecode .plMul, fun s => ⟨_, exec_plMul s, fun hempty => ?_, fun ha hb => ?_, fun k hk => ?_,
    fun k hk => Poly.read_load_of_le _ _ hk⟩⟩
  · rw [Poly.len_load, polyMul_empty _ _ (by simpa using hempty), List.length_nil]
  · rw [Poly.len_load, length_polyMul _ _ (by simpa using ha) (by simpa using hb), Poly.length_coeffs,
      Poly.length_coeffs]
  · rw [Poly.read_load_of_lt _ _ hk, getD_polyMul _ _ hk]
    exact xorSum_congr fun i _ => Poly.gfMul_coeffs _ _ _ _

/-- Settles O43: PR is loaded with the end of the synthetic division, whose places meet the recurrence. -/
theorem plDivResult : Obligations.PlDivResult := by
  refine ⟨encodeThenDecode .plDiv, fun s => ⟨exec_plDiv_of_empty, fun hb =>
    ⟨_, exec_plDiv_of_nonempty hb, ?_, fun k hk => ?_, fun k hk => Poly.read_load_of_le _ _ hk⟩⟩⟩
  · rw [Poly.len_load, length_polyDiv, Poly.length_coeffs, Poly.length_coeffs]
    omega
  · rw [Poly.len_load] at hk
    rw [Poly.read_load_of_lt _ _ hk, getD_polyDiv _ _ hk, Poly.getD_coeffs]
    congr 1
    refine xorSum_congr fun i hi => ?_
    rw [Poly.read_load_of_lt _ _ (by omega), Poly.length_coeffs, Poly.getD_coeffs, ite_and]
    split
    · split
      · rfl
      · exact gfMul_zero_left _
    · rfl

/-- Settles O44: of the product's coefficient k, the terms before k are what division subtracted from place k, and the
last is place k itself, as the divisor is monic. Beyond Q there is no last term, and place k belongs to Rm. -/
theorem divisionIdentity : Obligations.DivisionIdentity := by
  intro s t hb hmonic ht
  obtain ⟨-, hdiv⟩ := plDivResult
  obtain ⟨-, hdiv⟩ := hdiv s
  obtain ⟨p, hp, hlen, hcoef, -⟩ := hdiv hb
  cases hp.symm.trans ht
  refine ⟨by rw [hlen]; omega, fun k hk => ?_⟩
  have hplace := hcoef k hk
  simp only [gfMul_comm (s.pb.coef.read _)] at hplace
  rw [xorSum_succ_last, Nat.sub_self, hmonic, gfMul_one]
  by_cases hka : k < s.pa.len
  · rw [if_pos hka] at hplace ⊢
    rw [if_pos ⟨hka, Nat.pos_of_ne_zero hb⟩, if_neg (Nat.not_le.mpr hka)]
    exact (eq_xor_of_eq_xor hplace).trans BitVec.xor_zero.symm
  · rw [if_neg hka] at hplace ⊢
    rw [if_neg fun h => hka h.1, if_pos (Nat.le_of_not_lt hka)]
    exact (eq_xor_of_eq_xor hplace).trans (congrArg (· ^^^ _) BitVec.xor_zero.symm)

/-- Settles O45: PL_GEN loads the ROM's row into PB and PL_MOVRA loads PR's coefficients into PA. -/
theorem plGenMovraResults : Obligations.PlGenMovraResults := by
  refine ⟨encodeThenDecode .plGen, encodeThenDecode .plMovra, fun s =>
    ⟨fun hn => exec_plGen_of_none ((generator_eq_none_iff _).mpr hn), fun hn => ?_, exec_plMovra_of_range,
      fun hlen => ⟨_, exec_plMovra_of_le hlen, Poly.length_coeffs _, fun i hi => ?_, fun i hi => ?_⟩⟩⟩
  · obtain ⟨g, hg⟩ := exists_generator hn
    obtain ⟨hlen, -⟩ := shape_of_generator hg
    exact ⟨g, _, hg, exec_plGen_of_some hg, hlen, fun i hi => Poly.read_load_of_lt _ _ (by omega),
      fun i hi => Poly.read_load_of_le _ _ (by omega)⟩
  · rw [Poly.read_load_of_lt _ _ (by rwa [Poly.length_coeffs]), Poly.getD_coeffs, if_pos hi]
  · rw [Poly.read_load_of_le _ _ (by rwa [Poly.length_coeffs])]

end Sys2Proof.Machine
end

section
/-! SUPPORT. Reed-Solomon blocks (44_rs_encoder.md R192 to R194, R196): the in-place elimination of R193 is division by
G_ec, the blocks are the data stream cut in order, and the interleave permutes the codewords of its columns. -/

namespace Sys2Proof.Machine

open Sys2Proof.Rules

/-! ### Sequences by their places -/

theorem map_range_eq_of_getD {n : Nat} {f : Nat → Byte} {p : List Byte} (hp : p.length = n)
    (h : ∀ i < n, f i = p.getD i 0) : (List.range n).map f = p := by
  refine List.ext_getElem (by simp [hp]) fun i _ hi => ?_
  rw [List.getElem_map, List.getElem_range, h i (hp ▸ hi), List.getD_eq_getElem _ _ hi]

theorem getD_take (p : List Byte) (n i : Nat) : (p.take n).getD i 0 = if i < n then p.getD i 0 else 0 := by
  split
  · rw [List.getD_eq_getElem?_getD, List.getElem?_take_of_lt ‹_›, List.getD_eq_getElem?_getD]
  · exact List.getD_eq_default _ _ (by rw [List.length_take]; omega)

/-! ### In-place elimination is synthetic division (R193, 43_gf_poly.md R167) -/

/-- The inner loop of R193: `r[i + j] <- r[i + j] ^ gf_mul(g[j], c)` for j = 1 .. n. -/
def eliminateWith (n : Nat) (g : List Byte) (c : Byte) (i : Nat) (r : List Byte) : List Byte :=
  (List.range n).foldl
    (fun q j => q.set (i + (j + 1)) (q.getD (i + (j + 1)) 0 ^^^ gfMul (g.getD (j + 1) 0) c)) r

/-- One position of the outer loop of R193. -/
def eliminateAt (n : Nat) (g r : List Byte) (i : Nat) : List Byte :=
  if r.getD i 0 = 0 then r else eliminateWith n g (r.getD i 0) i r

theorem eliminated_eq_foldl (ec : Nat) (g d : List Byte) :
    eliminated ec g d = (List.range d.length).foldl (eliminateAt ec g) (d ++ List.replicate ec 0) := rfl

/-- A loop over 0 .. n is its first turn and then the loop over 0 .. n − 1 on the places after the first, when the later
turns leave the first place alone. -/
theorem foldl_range_succ_cons {f h : List Byte → Nat → List Byte} {x y : Byte} {r r' : List Byte} (n : Nat)
    (hfirst : f (x :: r) 0 = y :: r') (hlater : ∀ q i, f (y :: q) (i + 1) = y :: h q i) :
    (List.range (n + 1)).foldl f (x :: r) = y :: (List.range n).foldl h r' := by
  rw [List.range_succ_eq_map, List.foldl_cons, List.foldl_map, hfirst]
  exact List.foldl_hom (y :: ·) fun q i => hlater q i

theorem eliminateWith_succ_cons (n : Nat) (g : List Byte) (c : Byte) (i : Nat) (x : Byte) (r : List Byte) :
    eliminateWith n g c (i + 1) (x :: r) = x :: eliminateWith n g c i r :=
  List.foldl_hom (x :: ·) fun q j => by
    rw [Nat.add_right_comm i 1, List.set_cons_succ, List.getD_cons_succ]

theorem eliminateAt_succ_cons (n : Nat) (g : List Byte) (x : Byte) (r : List Byte) (i : Nat) :
    eliminateAt n g (x :: r) (i + 1) = x :: eliminateAt n g r i := by
  rw [eliminateAt, eliminateAt, List.getD_cons_succ, eliminateWith_succ_cons, apply_ite (x :: ·)]

/-- Subtracting place by place from the first place on. -/
theorem foldl_set_eq_subScaled (c : Byte) (b r : List Byte) :
    (List.range b.length).foldl (fun q j => q.set j (q.getD j 0 ^^^ gfMul (b.getD j 0) c)) r = subScaled c r b := by
  induction b generalizing r with
  | nil => cases r <;> rfl
  | cons y b ih =>
    cases r with
    | nil => exact List.foldl_fixed' (fun _ => rfl) _
    | cons x r => exact (foldl_range_succ_cons b.length rfl fun _ _ => rfl).trans (congrArg _ (ih r))

theorem eliminateAt_zero_cons (x : Byte) (t : List Byte) (c : Byte) (r : List Byte) :
    eliminateAt t.length (x :: t) (c :: r) 0 = c :: (if c ≠ 0 then subScaled c r t else r) := by
  have hloop : eliminateWith t.length (x :: t) c 0 (c :: r) = c :: subScaled c r t := by
    rw [← foldl_set_eq_subScaled]
    exact List.foldl_hom (c :: ·) fun q j => by
      rw [Nat.zero_add, List.set_cons_succ, List.getD_cons_succ, List.getD_cons_succ]
  rw [eliminateAt, List.getD_cons_zero, hloop, ite_not, apply_ite (c :: ·)]

theorem foldl_eliminateAt (x : Byte) (t : List Byte) (n : Nat) (r : List Byte) :
    (List.range n).foldl (eliminateAt t.length (x :: t)) r = divSteps t n r := by
  induction n generalizing r with
  | zero => rfl
  | succ n ih =>
    cases r with
    | nil => exact List.foldl_fixed' (fun _ => rfl) _
    | cons c r =>
      rw [divSteps, ← ih]
      exact foldl_range_succ_cons n (eliminateAt_zero_cons x t c r) (eliminateAt_succ_cons _ _ c)

theorem eliminated_eq_polyDiv {ec : Nat} {g : List Byte} (hg : g.length = ec + 1) (d : List Byte) :
    eliminated ec g d = polyDiv d g := by
  obtain ⟨x, t, rfl⟩ := List.exists_cons_of_length_eq_add_one hg
  obtain rfl : t.length = ec := Nat.succ.inj hg
  rw [eliminated_eq_foldl, foldl_eliminateAt]
  rfl

theorem errorWords_eq_blockEc {ec : Nat} {g : List Byte} (hg : g.length = ec + 1) (d : List Byte) :
    errorWords ec g d = blockEc g d := by
  rw [errorWords, eliminated_eq_polyDiv hg, blockEc]

theorem length_errorWords {ec : Nat} {g : List Byte} (hg : g.length = ec + 1) (d : List Byte) :
    (errorWords ec g d).length = ec := by
  rw [errorWords_eq_blockEc hg, length_blockEc, hg, Nat.add_sub_cancel]

/-! ### The division identity on coefficient sequences (R196, 43_gf_poly.md R171) -/

/-- A sequence as long as the sum keeps its places. -/
theorem alignedCoef_of_length {p : List Byte} {len : Nat} (h : p.length = len) (i : Nat) :
    alignedCoef p len i = p.getD i 0 := by
  rw [alignedCoef, h, Nat.sub_self, if_pos (Nat.zero_le i), Nat.sub_zero]

/-- The last places of a sequence, aligned at the lowest-order end, stand where they stood in it. -/
theorem alignedCoef_drop {p : List Byte} {n len : Nat} (h : p.length = len) (hn : n ≤ len) (i : Nat) :
    alignedCoef (p.drop n) len i = if n ≤ i then p.getD i 0 else 0 := by
  rw [alignedCoef, List.length_drop, h, Nat.sub_sub_self hn]
  split
  · rw [List.getD_eq_getElem?_getD, List.getElem?_drop, Nat.add_sub_cancel' ‹_›, List.getD_eq_getElem?_getD]
  · rfl

/-- Place k of the division's end is the dividend's less what the quotient's places before k subtract, so that with
those terms of the product and the last one, which is place k itself, it gives the dividend back. -/
theorem polyAdd_polyMul_polyDiv {p g : List Byte} (hp : p.length ≠ 0) (hmonic : g.head? = some 1) :
    polyAdd (polyMul ((polyDiv p g).take p.length) g) ((polyDiv p g).drop p.length) =
      p ++ List.replicate (g.length - 1) 0 := by
  have hg : g.length ≠ 0 := fun h => by rw [List.length_eq_zero_iff.mp h] at hmonic; exact nomatch hmonic
  have hfirst : g.getD 0 0 = 1 := by rw [List.getD_eq_getElem?_getD, ← List.head?_eq_getElem?, hmonic]; rfl
  have hdiv := length_polyDiv p g
  have hquot : ((polyDiv p g).take p.length).length = p.length := by rw [List.length_take]; omega
  have hmul : (polyMul ((polyDiv p g).take p.length) g).length = p.length + (g.length - 1) := by
    rw [length_polyMul _ _ (by rwa [hquot]) hg, hquot]; omega
  have hsum : (polyAdd (polyMul ((polyDiv p g).take p.length) g) ((polyDiv p g).drop p.length)).length =
      p.length + (g.length - 1) := by
    rw [length_polyAdd, hmul, List.length_drop, hdiv]; omega
  refine List.ext_getElem (by rw [hsum, List.length_append, List.length_replicate]) fun k hk hk' => ?_
  rw [← List.getD_eq_getElem _ 0 hk, ← List.getD_eq_getElem _ 0 hk', getD_append_replicate_zero, getD_polyAdd _ _ hk]
  rw [hsum] at hk ⊢
  rw [alignedCoef_of_length hmul, alignedCoef_drop hdiv (by omega), getD_polyMul _ _ (by rwa [hmul]), xorSum_succ_last,
    Nat.sub_self, hfirst, gfMul_one, BitVec.xor_assoc]
  have hlast : ((polyDiv p g).take p.length).getD k 0 ^^^ (if p.length ≤ k then (polyDiv p g).getD k 0 else 0) =
      (polyDiv p g).getD k 0 := by
    rw [getD_take]
    by_cases hkp : k < p.length
    · rw [if_pos hkp, if_neg (Nat.not_le.mpr hkp)]; exact BitVec.xor_zero
    · rw [if_neg hkp, if_pos (Nat.le_of_not_lt hkp)]; exact BitVec.zero_xor
  have hplace := getD_polyDiv p g (k := k) (by rwa [hdiv])
  rw [hlast, eq_xor_of_eq_xor hplace]
  congr 1
  refine xorSum_congr fun i _ => ?_
  rw [getD_take, gfMul_comm]
  split
  · rfl
  · exact gfMul_zero_right _

/-- The identity with the error codewords of R193 as the remainder. -/
theorem polyAdd_polyMul_errorWords {ec : Nat} {p g : List Byte} (hp : p.length ≠ 0) (hg : g.length = ec + 1)
    (hmonic : g.head? = some 1) :
    polyAdd (polyMul ((polyDiv p g).take p.length) g) (errorWords ec g p) = p ++ List.replicate ec 0 := by
  rw [errorWords_eq_blockEc hg, blockEc, polyAdd_polyMul_polyDiv hp hmonic, hg, Nat.add_sub_cancel]

/-! ### The interleave (R194) -/

theorem maxLength_eq_longest (blocks : List (List Byte)) : maxLength blocks = longest blocks := by
  rw [maxLength, longest, ← List.foldl_eq_foldr, List.foldl_map]

theorem length_le_longest {blocks : List (List Byte)} {d : List Byte} (hd : d ∈ blocks) :
    d.length ≤ longest blocks :=
  List.le_max_of_le' 0 (List.mem_map_of_mem hd) le_rfl

/-- Column i: position i of every block that has one. -/
theorem column_eq (i : Nat) (blocks : List (List Byte)) :
    blocks.filterMap (fun d => d[i]?) =
      (blocks.filter (fun d => decide (i < d.length))).map (fun d => d.getD i 0) := by
  induction blocks with
  | nil => rfl
  | cons d blocks ih =>
    by_cases hi : i < d.length
    · simp [hi, ih]
    · simp [hi, ih]

theorem columns_of_length {n : Nat} {blocks : List (List Byte)} (h : ∀ d ∈ blocks, d.length = n) :
    columns n blocks = (List.range n).flatMap (fun i => blocks.map (fun d => d.getD i 0)) := by
  refine List.flatMap_congr fun i hi => ?_
  rw [column_eq, List.filter_eq_self.mpr fun d hd => ?_]
  rw [h d hd]
  exact decide_eq_true (List.mem_range.mp hi)

/-- The model's output is the one the statements write from R194. -/
theorem interleave_eq_rsOut {ec : Nat} {g : List Byte} (hg : g.length = ec + 1) (blocks : List (List Byte)) :
    interleave ec g blocks = rsOut ec g blocks := by
  have hec : columns ec (blocks.map (blockEc g)) =
      (List.range ec).flatMap fun i => blocks.map fun d => (errorWords ec g d).getD i 0 := by
    rw [columns_of_length]
    · simp only [List.map_map, Function.comp_def, errorWords_eq_blockEc hg]
    · simp [length_blockEc, hg]
  rw [interleave, rsOut, maxLength_eq_longest, hec, columns]
  simp only [column_eq]

/-- Reading the same codewords block by block instead of column by column. -/
theorem columns_perm (n : Nat) (blocks : List (List Byte)) :
    (columns n blocks).Perm (blocks.flatMap fun d => d.take n) := by
  induction n with
  | zero => simp [columns]
  | succ n ih =>
    have hcolumn : columns (n + 1) blocks = columns n blocks ++ blocks.flatMap (fun d => d[n]?.toList) := by
      rw [columns, List.range_succ, List.flatMap_append, List.flatMap_singleton, List.filterMap_eq_flatMap_toList]
      rfl
    simp only [hcolumn, List.take_add_one]
    exact (ih.append_right _).trans (List.flatMap_append_perm _ _ _)

/-- The columns hold every codeword of every block once. -/
theorem columns_maxLength_perm (blocks : List (List Byte)) :
    (columns (maxLength blocks) blocks).Perm blocks.flatten := by
  refine (columns_perm _ blocks).trans (.of_eq ?_)
  rw [maxLength_eq_longest, ← List.flatMap_id]
  exact List.flatMap_congr fun d hd => List.take_of_length_le (length_le_longest hd)

theorem length_columns_of_length {n : Nat} {blocks : List (List Byte)} (h : ∀ d ∈ blocks, d.length = n) :
    (columns n blocks).length = blocks.length * n := by
  rw [length_columns, List.map_congr_left fun d hd => by rw [h d hd, Nat.min_self], List.map_const',
    List.sum_replicate_nat]

/-- Of rows of one length m that follow one another, place i · m + k is place k of row i. -/
theorem getD_flatMap_of_length {m : Nat} {f : Nat → List Byte} (hf : ∀ a, (f a).length = m) (l : List Nat) {i k : Nat}
    (hi : i < l.length) (hk : k < m) : (l.flatMap f).getD (i * m + k) 0 = (f l[i]).getD k 0 := by
  induction l generalizing i with
  | nil => exact absurd hi (Nat.not_lt_zero i)
  | cons a l ih =>
    rw [List.flatMap_cons]
    cases i with
    | zero => rw [Nat.zero_mul, Nat.zero_add, List.getD_append _ _ _ _ (by rwa [hf]), List.getElem_cons_zero]
    | succ i =>
      have hrow : (i + 1) * m + k = (f a).length + (i * m + k) := by rw [hf, Nat.succ_mul]; omega
      rw [hrow, List.getD_append_right _ _ _ _ (Nat.le_add_right _ _), Nat.add_sub_cancel_left,
        ih (Nat.lt_of_succ_lt_succ hi), List.getElem_cons_succ]

theorem getD_columns_of_length {n : Nat} {blocks : List (List Byte)} (h : ∀ d ∈ blocks, d.length = n) {i k : Nat}
    (hi : i < n) (hk : k < blocks.length) :
    (columns n blocks).getD (i * blocks.length + k) 0 = (blocks.getD k []).getD i 0 := by
  rw [columns_of_length h, getD_flatMap_of_length (fun _ => List.length_map _) _ (by rwa [List.length_range]) hk,
    List.getElem_range, List.getD_eq_getElem _ _ hk, List.getD_eq_getElem _ _ (by rwa [List.length_map]),
    List.getElem_map]

/-! ### The block split (R192) -/

theorem flatten_splitBlocks (ls : List Nat) (cs : List Byte) : (splitBlocks ls cs).flatten = cs.take ls.sum := by
  induction ls generalizing cs with
  | nil => rfl
  | cons l ls ih => rw [splitBlocks, List.flatten_cons, ih, List.sum_cons, List.take_add]

/-- Block k starts where the blocks before it end. -/
theorem getElem_splitBlocks (ls : List Nat) (cs : List Byte) {k : Nat} (hk : k < (splitBlocks ls cs).length)
    (hk' : k < ls.length) : (splitBlocks ls cs)[k] = (cs.drop (ls.take k).sum).take ls[k] := by
  induction ls generalizing cs k with
  | nil => exact absurd hk' (Nat.not_lt_zero k)
  | cons l ls ih =>
    cases k with
    | zero => rfl
    | succ k =>
      simp only [splitBlocks, List.getElem_cons_succ, List.take_succ_cons, List.sum_cons, ← List.drop_drop]
      exact ih _ _ _

theorem sum_blockLengths (c1 d1 c2 d2 : Nat) : (blockLengths c1 d1 c2 d2).sum = c1 * d1 + c2 * d2 := by
  simp [blockLengths]

theorem sum_take_blockLengths (c1 d1 c2 d2 k : Nat) (hk : k < c1 + c2) :
    ((blockLengths c1 d1 c2 d2).take k).sum = blockStart c1 d1 d2 k := by
  rw [blockStart, blockLengths, List.take_append, List.take_replicate, List.take_replicate, List.length_replicate]
  split
  · simp [Nat.min_eq_left (Nat.le_of_lt ‹_›), Nat.sub_eq_zero_of_le (Nat.le_of_lt ‹_›)]
  · simp [Nat.min_eq_right (Nat.le_of_not_lt ‹_›), Nat.min_eq_left (show k - c1 ≤ c2 by omega)]

theorem getElem_blockLengths (c1 d1 c2 d2 k : Nat) (hk : k < (blockLengths c1 d1 c2 d2).length) :
    (blockLengths c1 d1 c2 d2)[k] = blockLen c1 d1 d2 k := by
  simp [blockLengths, blockLen, List.getElem_append]

theorem take_drop_codewords (x : BitBuffer) {n a l : Nat} (h : a + l ≤ n) :
    ((x.codewords n).drop a).take l = (List.range l).map fun t => x.byteAt (a + t) := by
  refine List.ext_getElem ?_ fun t _ _ => ?_
  · rw [List.length_take, List.length_drop, BitBuffer.length_codewords, List.length_map, List.length_range]
    omega
  · simp [BitBuffer.codewords]

theorem blockStart_add_blockLen_le {c1 d1 c2 d2 k : Nat} (hk : k < c1 + c2) :
    blockStart c1 d1 d2 k + blockLen c1 d1 d2 k ≤ c1 * d1 + c2 * d2 := by
  rw [blockStart, blockLen]
  split
  · rw [← Nat.succ_mul]
    exact (Nat.mul_le_mul_right d1 ‹_›).trans (Nat.le_add_right _ _)
  · rw [Nat.add_assoc, ← Nat.succ_mul]
    exact Nat.add_le_add_left (Nat.mul_le_mul_right d2 (by omega)) _

/-- The model's blocks are the ones the statements write from R192. -/
theorem splitBlocks_codewords (x : BitBuffer) (c1 d1 c2 d2 : Nat) :
    splitBlocks (blockLengths c1 d1 c2 d2) (x.codewords (c1 * d1 + c2 * d2)) = rsBlocks x c1 d1 c2 d2 := by
  have hlen : (splitBlocks (blockLengths c1 d1 c2 d2) (x.codewords (c1 * d1 + c2 * d2))).length = c1 + c2 := by
    rw [length_splitBlocks, length_blockLengths]
  refine List.ext_getElem (by rw [hlen, rsBlocks, List.length_map, List.length_range]) fun k hk _ => ?_
  have hk' : k < c1 + c2 := by omega
  rw [getElem_splitBlocks _ _ hk (by rwa [length_blockLengths]), sum_take_blockLengths _ _ _ _ _ hk',
    getElem_blockLengths, take_drop_codewords x (blockStart_add_blockLen_le hk')]
  simp [rsBlocks]

theorem length_rsBlocks (x : BitBuffer) (c1 d1 c2 d2 : Nat) : (rsBlocks x c1 d1 c2 d2).length = c1 + c2 := by
  rw [rsBlocks, List.length_map, List.length_range]

theorem flatten_rsBlocks (x : BitBuffer) (c1 d1 c2 d2 : Nat) :
    (rsBlocks x c1 d1 c2 d2).flatten = x.codewords (c1 * d1 + c2 * d2) := by
  rw [← splitBlocks_codewords, flatten_splitBlocks, sum_blockLengths]
  exact List.take_of_length_le (BitBuffer.length_codewords _ _).le

end Sys2Proof.Machine
end

section
/-! SUPPORT. RS_ENCODE (44_rs_encoder.md): the length and the places of its output, the outcome of the command check by
check, and the interleaving law (R196). -/

namespace Sys2Proof.Machine

open Sys2Proof.Rules

/-! ### The output of R194 -/

section

variable {ec : Nat} {g : List Byte} (hg : g.length = ec + 1) (x : BitBuffer) (c1 d1 c2 d2 : Nat)

/-- The first part of the output is the data codewords, column by column. -/
theorem dataColumns_perm :
    (columns (maxLength (rsBlocks x c1 d1 c2 d2)) (rsBlocks x c1 d1 c2 d2)).Perm (x.codewords (c1 * d1 + c2 * d2)) := by
  rw [← flatten_rsBlocks]
  exact columns_maxLength_perm _

theorem length_dataColumns :
    (columns (maxLength (rsBlocks x c1 d1 c2 d2)) (rsBlocks x c1 d1 c2 d2)).length = c1 * d1 + c2 * d2 :=
  (dataColumns_perm x c1 d1 c2 d2).length_eq.trans (BitBuffer.length_codewords _ _)

theorem take_interleave_perm :
    ((interleave ec g (rsBlocks x c1 d1 c2 d2)).take (c1 * d1 + c2 * d2)).Perm (x.codewords (c1 * d1 + c2 * d2)) := by
  rw [interleave, List.take_left' (length_dataColumns x c1 d1 c2 d2)]
  exact dataColumns_perm x c1 d1 c2 d2

/-- A single block is the whole data stream. -/
theorem rsBlocks_of_single (h : c1 + c2 = 1) : rsBlocks x c1 d1 c2 d2 = [x.codewords (c1 * d1 + c2 * d2)] := by
  obtain ⟨d, hd⟩ := List.length_eq_one_iff.mp ((length_rsBlocks x c1 d1 c2 d2).trans h)
  rw [← flatten_rsBlocks, hd, List.flatten_singleton]

include hg

theorem length_of_mem_blockEc {blocks : List (List Byte)} : ∀ e ∈ blocks.map (blockEc g), e.length = ec := by
  simp [length_blockEc, hg]

theorem length_interleave :
    (interleave ec g (rsBlocks x c1 d1 c2 d2)).length = c1 * d1 + c2 * d2 + (c1 + c2) * ec := by
  rw [interleave, List.length_append, length_dataColumns, length_columns_of_length (length_of_mem_blockEc hg),
    List.length_map, length_rsBlocks]

/-- Place D + i · (c1 + c2) + k of the output is error codeword i of block k. -/
theorem getD_interleave {i k : Nat} (hi : i < ec) (hk : k < c1 + c2) :
    (interleave ec g (rsBlocks x c1 d1 c2 d2)).getD (c1 * d1 + c2 * d2 + i * (c1 + c2) + k) 0 =
      (errorWords ec g ((rsBlocks x c1 d1 c2 d2).getD k [])).getD i 0 := by
  have hblocks : ((rsBlocks x c1 d1 c2 d2).map (blockEc g)).length = c1 + c2 := by
    rw [List.length_map, length_rsBlocks]
  have hplace := getD_columns_of_length (length_of_mem_blockEc hg (blocks := rsBlocks x c1 d1 c2 d2)) hi
    (k := k) (by rwa [hblocks])
  rw [hblocks] at hplace
  rw [interleave, List.getD_append_right _ _ _ _ (by rw [length_dataColumns]; omega), length_dataColumns, Nat.add_assoc,
    Nat.add_sub_cancel_left, hplace, errorWords_eq_blockEc hg]
  simp [length_rsBlocks, hk]

end

/-! ### A buffer filled with bytes (R195) -/

theorem BitBuffer.byteAt_ofBytes (out : List Byte) (k : Nat) : (BitBuffer.ofBytes out).byteAt k = out.getD k 0 := by
  refine BitVec.eq_of_getLsbD_eq fun i hi => ?_
  obtain ⟨j, hj, rfl⟩ : ∃ j < 8, i = 7 - j := ⟨7 - i, by omega, by omega⟩
  have hcount : (BitBuffer.ofBytes out).count = 8 * out.length := rfl
  rw [BitBuffer.getLsbD_byteAt _ _ hj, BitBuffer.bitz, BitBuffer.readBit_ofBytes, hcount,
    show (8 * k + j) / 8 = k by omega, show (8 * k + j) % 8 = j by omega]
  split
  · rfl
  · rw [List.getD_eq_default _ _ (by omega)]; exact BitVec.getLsbD_zero.symm

theorem BitBuffer.codewords_ofBytes (out : List Byte) {n : Nat} (hn : n ≤ out.length) :
    (BitBuffer.ofBytes out).codewords n = out.take n := by
  refine map_range_eq_of_getD (List.length_take_of_le hn) fun i hi => ?_
  rw [BitBuffer.byteAt_ofBytes, getD_take, if_pos hi]

/-! ### The packed groups (R190, 30_encoding.md R83) -/

theorem groupCount_eq (w : Word) : groupCount w = w.toNat % 256 := by
  rw [groupCount, BitVec.extractLsb'_toNat, Nat.shiftRight_zero]

theorem groupData_eq (w : Word) : groupData w = w.toNat / 256 % 256 := by
  rw [groupData, BitVec.extractLsb'_toNat, Nat.shiftRight_eq_div_pow]

theorem groupRsv_ne_zero_iff (w : Word) : groupRsv w ≠ 0 ↔ w.toNat / 65536 ≠ 0 := by
  have hw : w.toNat / 65536 < 2 ^ 16 := Nat.div_lt_of_lt_mul w.isLt
  have hrsv : (groupRsv w).toNat = w.toNat / 65536 := by
    rw [groupRsv, BitVec.extractLsb'_toNat, Nat.shiftRight_eq_div_pow, Nat.mod_eq_of_lt hw]
  rw [← hrsv, ne_eq, ← BitVec.toNat_inj]
  rfl

/-- The operands of RS_ENCODE latched in `s`, as R190 names them. -/
structure RsOperands (s : State) (ec c1 d1 c2 d2 : Nat) : Prop where
  ec_eq : ec = s.int0
  c1_eq : c1 = s.latch.a1.toNat % 256
  d1_eq : d1 = s.latch.a1.toNat / 256 % 256
  c2_eq : c2 = s.latch.a2.toNat % 256
  d2_eq : d2 = s.latch.a2.toNat / 256 % 256

/-- One of the four checks of R191 that end RS_ENCODE with INVALID_ARGUMENT fails. -/
abbrev RsInvalid (b : BSel) (s : State) (c1 d1 c2 d2 : Nat) : Prop :=
  (s.latch.a1.toNat / 65536 ≠ 0 ∨ s.latch.a2.toNat / 65536 ≠ 0) ∨ (0 < c1 ∧ d1 = 0) ∨ (0 < c2 ∧ d2 = 0) ∨
    c1 + c2 = 0 ∨ ((s.buf b).count + 7) / 8 ≠ c1 * d1 + c2 * d2

theorem not_rsInvalid {b : BSel} {s : State} {c1 d1 c2 d2 : Nat} (hr1 : s.latch.a1.toNat / 65536 = 0)
    (hr2 : s.latch.a2.toNat / 65536 = 0) (hg1 : ¬ (0 < c1 ∧ d1 = 0)) (hg2 : ¬ (0 < c2 ∧ d2 = 0)) (hblocks : c1 + c2 ≠ 0)
    (hbytes : ((s.buf b).count + 7) / 8 = c1 * d1 + c2 * d2) : ¬ RsInvalid b s c1 d1 c2 d2 := by
  rintro ((h | h) | h | h | h | h)
  · exact h hr1
  · exact h hr2
  · exact hg1 h
  · exact hg2 h
  · exact hblocks h
  · exact h hbytes

/-- A layout that passes these checks has a data codeword. -/
theorem dataCount_ne_zero {b : BSel} {s : State} {c1 d1 c2 d2 : Nat} (h : ¬ RsInvalid b s c1 d1 c2 d2) :
    c1 * d1 + c2 * d2 ≠ 0 := by
  intro hzero
  obtain ⟨h1, h2⟩ := Nat.add_eq_zero_iff.mp hzero
  rw [Nat.mul_eq_zero] at h1 h2
  exact h (by unfold RsInvalid; omega)

/-- The total fits the result register. -/
theorem RsOperands.total_lt {s : State} {ec c1 d1 c2 d2 : Nat} {g : List Byte} (h : RsOperands s ec c1 d1 c2 d2)
    (hg : generator ec = some g) : c1 * d1 + c2 * d2 + (c1 + c2) * ec < 2 ^ 32 := by
  obtain ⟨-, hc1, hd1, hc2, hd2⟩ := h
  have hrom : ∀ n ∈ supportedEc, n ≤ 30 := by decide
  have hec : ec ≤ 30 := hrom ec (not_not.mp fun hn => by simp [(generator_eq_none_iff ec).mpr hn] at hg)
  have hblocks1 : c1 * d1 ≤ 255 * 255 := Nat.mul_le_mul (by omega) (by omega)
  have hblocks2 : c2 * d2 ≤ 255 * 255 := Nat.mul_le_mul (by omega) (by omega)
  have herror : (c1 + c2) * ec ≤ 510 * 30 := Nat.mul_le_mul (by omega) hec
  omega

/-- The state with the writes of a successful RS_ENCODE (R195), before its completion. -/
def rsWritten (ec : Nat) (g : List Byte) (b : BSel) (s : State) (c1 d1 c2 d2 : Nat) : State :=
  ((s.setBuf b.other (.ofBytes (interleave ec g (rsBlocks (s.buf b) c1 d1 c2 d2)))).setRes0
    (wordOf (c1 * d1 + c2 * d2 + (c1 + c2) * ec))).setRes1 (wordOf (c1 + c2))

theorem complete_rsWritten_frame (ec : Nat) (g : List Byte) (b : BSel) (s : State) (c1 d1 c2 d2 : Nat) {t : State}
    (ht : t = (rsWritten ec g b s c1 d1 c2 d2).complete .ok) :
    t.buf b.other = .ofBytes (interleave ec g (rsBlocks (s.buf b) c1 d1 c2 d2)) ∧ t.buf b = s.buf b ∧
      t = { ended s .ok with
        b0 := t.b0, b1 := t.b1, res0 := BitVec.ofNat 32 (c1 * d1 + c2 * d2 + (c1 + c2) * ec),
        res1 := BitVec.ofNat 32 (c1 + c2) } := by
  subst ht
  refine ⟨by simp [rsWritten], by simp [rsWritten], ?_⟩
  cases b <;> rfl

/-! ### The outcomes of the command -/

section

variable {b : BSel} {s t : State} {ec c1 d1 c2 d2 : Nat} {g : List Byte}

/-- The checks after the first, those with INVALID_ARGUMENT taken together, and then the writes. -/
theorem rsEncodeWith_eq (hops : RsOperands s ec c1 d1 c2 d2) :
    rsEncodeWith g b s =
      if RsInvalid b s c1 d1 c2 d2 then .error .invalidArgument
      else if s.cfg.bbCapBits < 8 * (c1 * d1 + c2 * d2 + (c1 + c2) * ec) then .error .capacityExceeded
      else .ok (rsWritten ec g b s c1 d1 c2 d2) := by
  obtain ⟨rfl, hc1, hd1, hc2, hd2⟩ := hops
  rw [← groupCount_eq] at hc1 hc2
  rw [← groupData_eq] at hd1 hd2
  subst hc1 hd1 hc2 hd2
  simp only [RsInvalid, ← groupRsv_ne_zero_iff, ite_or, rsEncodeWith, rsWritten, splitBlocks_codewords]
  rfl

theorem exec_rsEncode_of_notSupported (h : generator s.int0 = none) :
    exec (.rsEncode b) s = .next (ended s .notSupported) := by
  rw [exec, execRsEncode, h]
  rfl

variable (hops : RsOperands s ec c1 d1 c2 d2) (hg : generator ec = some g)

include hops hg

theorem exec_rsEncode_of_generator : exec (.rsEncode b) s = done s (rsEncodeWith g b s) := by
  rw [hops.ec_eq] at hg
  rw [exec, execRsEncode, hg]

theorem exec_rsEncode_of_invalid (h : RsInvalid b s c1 d1 c2 d2) :
    exec (.rsEncode b) s = .next (ended s .invalidArgument) := by
  rw [exec_rsEncode_of_generator hops hg, rsEncodeWith_eq hops, if_pos h]
  rfl

theorem exec_rsEncode_of_capacity (hvalid : ¬ RsInvalid b s c1 d1 c2 d2)
    (h : s.cfg.bbCapBits < 8 * (c1 * d1 + c2 * d2 + (c1 + c2) * ec)) :
    exec (.rsEncode b) s = .next (ended s .capacityExceeded) := by
  rw [exec_rsEncode_of_generator hops hg, rsEncodeWith_eq hops, if_neg hvalid, if_pos h]
  rfl

theorem exec_rsEncode_of_fits (hvalid : ¬ RsInvalid b s c1 d1 c2 d2)
    (h : 8 * (c1 * d1 + c2 * d2 + (c1 + c2) * ec) ≤ s.cfg.bbCapBits) :
    exec (.rsEncode b) s = .next ((rsWritten ec g b s c1 d1 c2 d2).complete .ok) := by
  rw [exec_rsEncode_of_generator hops hg, rsEncodeWith_eq hops, if_neg hvalid, if_neg (Nat.not_lt.mpr h)]
  rfl

/-- An RS_ENCODE that ends with OK passed all its checks. -/
theorem of_exec_rsEncode_ok (ht : exec (.rsEncode b) s = .next t) (hok : t.err = .ok) :
    ¬ RsInvalid b s c1 d1 c2 d2 ∧ t = (rsWritten ec g b s c1 d1 c2 d2).complete .ok := by
  by_cases hinv : RsInvalid b s c1 d1 c2 d2
  · cases (exec_rsEncode_of_invalid hops hg hinv).symm.trans ht
    exact nomatch hok
  by_cases hcap : s.cfg.bbCapBits < 8 * (c1 * d1 + c2 * d2 + (c1 + c2) * ec)
  · cases (exec_rsEncode_of_capacity hops hg hinv hcap).symm.trans ht
    exact nomatch hok
  · cases (exec_rsEncode_of_fits hops hg hinv (Nat.le_of_not_lt hcap)).symm.trans ht
    exact ⟨hinv, rfl⟩

end

/-! ### The statements -/

/-- Settles O47: the first check is the ROM's, the next four end alike, and the capacity comes last. -/
theorem rsEncodeChecks : Obligations.RsEncodeChecks := by
  intro b s ec c1 d1 c2 d2 hec hc1 hd1 hc2 hd2
  have hops : RsOperands s ec c1 d1 c2 d2 := ⟨hec, hc1, hd1, hc2, hd2⟩
  refine ⟨fun hn => ?_, fun hn hinv => ?_, fun hn hr1 hr2 hg1 hg2 hblocks hbytes hcap => ?_⟩
  · rw [hec] at hn
    exact exec_rsEncode_of_notSupported ((generator_eq_none_iff _).mpr hn)
  · obtain ⟨g, hg⟩ := exists_generator hn
    exact exec_rsEncode_of_invalid hops hg hinv
  · obtain ⟨g, hg⟩ := exists_generator hn
    exact exec_rsEncode_of_capacity hops hg (not_rsInvalid hr1 hr2 hg1 hg2 hblocks hbytes) hcap

/-- Settles O48: the destination is filled with the model's output, which is the one R192 to R194 describe. -/
theorem rsEncodeOutput : Obligations.RsEncodeOutput := by
  refine ⟨encodeThenDecode (.rsEncode .b0), encodeThenDecode (.rsEncode .b1), ?_⟩
  intro b s ec c1 d1 c2 d2 total g hec hc1 hd1 hc2 hd2 hg hr1 hr2 hg1 hg2 hblocks hbytes htotal hcap
  subst htotal
  have hops : RsOperands s ec c1 d1 c2 d2 := ⟨hec, hc1, hd1, hc2, hd2⟩
  obtain ⟨hlen, -⟩ := shape_of_generator hg
  have hout := length_interleave hlen (s.buf b) c1 d1 c2 d2
  obtain ⟨hdest, hsource, hframe⟩ := complete_rsWritten_frame ec g b s c1 d1 c2 d2 rfl
  rw [interleave_eq_rsOut hlen] at hout hdest
  refine ⟨_, exec_rsEncode_of_fits hops hg (not_rsInvalid hr1 hr2 hg1 hg2 hblocks hbytes) hcap, ?_,
    fun k j _ hj => ?_, fun i hi => ?_, hsource, hframe⟩
  · rw [hdest, BitBuffer.ofBytes, hout]
  · rw [hdest, BitBuffer.readBit_ofBytes, show (8 * k + j) / 8 = k by omega, show (8 * k + j) % 8 = j by omega]
  · rw [hdest, BitBuffer.readBit_ofBytes, List.getD_eq_default _ _ (by omega)]
    exact BitVec.getLsbD_zero

/-- Settles O49: the output's parts are those of the interleave, and a single block is the whole data stream, divided
by a monic G_ec. -/
theorem rsInterleaveLaw : Obligations.RsInterleaveLaw := by
  intro b s t ec c1 d1 c2 d2 g hec hc1 hd1 hc2 hd2 ht hok hg
  have hops : RsOperands s ec c1 d1 c2 d2 := ⟨hec, hc1, hd1, hc2, hd2⟩
  obtain ⟨hlen, hmonic⟩ := shape_of_generator hg
  obtain ⟨hvalid, hwritten⟩ := of_exec_rsEncode_ok hops hg ht hok
  obtain ⟨hdest, -, hframe⟩ := complete_rsWritten_frame ec g b s c1 d1 c2 d2 hwritten
  have herror : ∀ i k, i < ec → k < c1 + c2 →
      (t.buf b.other).byteAt (c1 * d1 + c2 * d2 + i * (c1 + c2) + k) =
        (errorWords ec g ((rsBlocks (s.buf b) c1 d1 c2 d2).getD k [])).getD i 0 := by
    intro i k hi hk
    rw [hdest, BitBuffer.byteAt_ofBytes, getD_interleave hlen _ _ _ _ _ hi hk]
  refine ⟨?_, ?_, herror, fun hone => ?_⟩
  · rw [hframe]
    exact Nat.mod_eq_of_lt (hops.total_lt hg)
  · rw [hdest, BitBuffer.codewords_ofBytes _ (by rw [length_interleave hlen]; omega)]
    exact take_interleave_perm _ _ _ _ _
  · have hdata := (s.buf b).length_codewords (c1 * d1 + c2 * d2)
    have hrem : (List.range ec).map (fun i => (t.buf b.other).byteAt (c1 * d1 + c2 * d2 + i)) =
        errorWords ec g ((s.buf b).codewords (c1 * d1 + c2 * d2)) := by
      refine map_range_eq_of_getD (length_errorWords hlen _) fun i hi => ?_
      have hplace := herror i 0 hi (by omega)
      rwa [rsBlocks_of_single _ _ _ _ _ hone, hone, Nat.mul_one, Nat.add_zero] at hplace
    have hdiv := polyAdd_polyMul_errorWords (by rw [hdata]; exact dataCount_ne_zero hvalid) hlen hmonic
    refine ⟨_, ?_, hrem ▸ hdiv⟩
    rw [List.length_take, length_polyDiv, hdata]
    omega

end Sys2Proof.Machine
end

section
/-! SUPPORT. The function-module map (45_function_modules.md section 1): the model's stamps, case by case, are those of
R212 to R218, and the map is their union (R219). -/

namespace Sys2Proof.Machine

open Sys2Proof.Rules

/-! ### The alignment centres (45_function_modules.md R213) -/

/-- Of the centres only 6 is near the first rows and columns, and only N(v) - 7 near the last ones. -/
theorem alignCentres_bounds : ∀ v ≤ 40, ∀ c ∈ alignCentres v,
    (c < 10 ↔ c = 6) ∧ (17 + 4 * v ≤ c + 10 ↔ c + 7 = 17 + 4 * v) := by
  decide

/-- Settles O51: a check of the table's forty rows. -/
theorem alignmentCentres : Obligations.AlignmentCentres := by
  have hshape : ∀ v ≤ 40, 2 ≤ v → (alignCentres v).length = v / 7 + 2 ∧ (alignCentres v).Pairwise (· < ·) ∧
      (alignCentres v).head? = some 6 ∧ (alignCentres v).getLast? = some (17 + 4 * v - 7) := by decide
  exact ⟨rfl, rfl, fun v h2 h40 => hshape v h40 h2⟩

/-! ### The stamps (45_function_modules.md R212 to R218) -/

theorem inFinder_iff (v x y : Nat) :
    inFinder (sideLen v) x y = true ↔
      (x < 8 ∧ y < 8) ∨ (17 + 4 * v ≤ x + 8 ∧ y < 8) ∨ (x < 8 ∧ 17 + 4 * v ≤ y + 8) := by
  have hn : sideLen v = 17 + 4 * v := rfl
  simp only [inFinder, Bool.or_eq_true, Bool.and_eq_true, decide_eq_true_eq]
  omega

/-- The skipped squares are the three R214 names: only centres 6 and N(v) - 7 come near a finder region. -/
theorem squareMeetsFinder_iff {v cx cy : Nat} (hv : v ≤ 40) (hx : cx ∈ alignCentres v) (hy : cy ∈ alignCentres v) :
    squareMeetsFinder (sideLen v) cx cy = true ↔
      (cx = 6 ∧ cy = 6) ∨ (cx + 7 = 17 + 4 * v ∧ cy = 6) ∨ (cx = 6 ∧ cy + 7 = 17 + 4 * v) := by
  have hbx := alignCentres_bounds v hv cx hx
  have hby := alignCentres_bounds v hv cy hy
  have hn : sideLen v = 17 + 4 * v := rfl
  simp only [squareMeetsFinder, Bool.or_eq_true, Bool.and_eq_true, decide_eq_true_eq]
  omega

theorem nearCentre_iff (c x : Nat) : nearCentre c x = true ↔ c ≤ x + 2 ∧ x ≤ c + 2 := by
  simp [nearCentre]

theorem inAlignment_iff {v : Nat} (hv : v ≤ 40) (x y : Nat) :
    inAlignment v x y = true ↔ ∃ cx ∈ alignCentres v, ∃ cy ∈ alignCentres v,
      ¬ (cx = 6 ∧ cy = 6) ∧ ¬ (cx = 6 ∧ cy + 7 = 17 + 4 * v) ∧ ¬ (cx + 7 = 17 + 4 * v ∧ cy = 6)
      ∧ cx ≤ x + 2 ∧ x ≤ cx + 2 ∧ cy ≤ y + 2 ∧ y ≤ cy + 2 := by
  simp only [inAlignment, List.any_eq_true, Bool.and_eq_true, nearCentre_iff, Bool.not_eq_true']
  constructor
  · rintro ⟨cx, hcx, hx, cy, hcy, hy, hskip⟩
    rw [← Bool.not_eq_true, squareMeetsFinder_iff hv hcx hcy] at hskip
    exact ⟨cx, hcx, cy, hcy, by omega⟩
  · rintro ⟨cx, hcx, cy, hcy, h⟩
    refine ⟨cx, hcx, by omega, cy, hcy, by omega, ?_⟩
    rw [← Bool.not_eq_true, squareMeetsFinder_iff hv hcx hcy]
    omega

theorem inTiming_iff (x y : Nat) : inTiming x y = true ↔ y = 6 ∨ x = 6 := by
  simp [inTiming]

theorem isDarkModule_iff (v x y : Nat) : isDarkModule (sideLen v) x y = true ↔ x = 8 ∧ y = 4 * v + 9 := by
  have hn : sideLen v = 17 + 4 * v := rfl
  simp only [isDarkModule, Bool.and_eq_true, decide_eq_true_eq]
  omega

theorem inFormat_iff (v x y : Nat) :
    inFormat (sideLen v) x y = true ↔
      (x = 8 ∧ y ≤ 8) ∨ (y = 8 ∧ x ≤ 8) ∨ (y = 8 ∧ 17 + 4 * v ≤ x + 8) ∨ (x = 8 ∧ 17 + 4 * v ≤ y + 8) := by
  have hn : sideLen v = 17 + 4 * v := rfl
  simp only [inFormat, Bool.or_eq_true, Bool.and_eq_true, decide_eq_true_eq]
  omega

theorem inVersionInfo_iff (v x y : Nat) :
    inVersionInfo v (sideLen v) x y = true ↔
      7 ≤ v ∧ ((x ≤ 5 ∧ 17 + 4 * v ≤ y + 11 ∧ y + 9 ≤ 17 + 4 * v)
        ∨ (17 + 4 * v ≤ x + 11 ∧ x + 9 ≤ 17 + 4 * v ∧ y ≤ 5)) := by
  have hn : sideLen v = 17 + 4 * v := rfl
  simp only [inVersionInfo, Bool.or_eq_true, Bool.and_eq_true, decide_eq_true_eq]
  omega

/-! ### The map (45_function_modules.md R211, R219) -/

/-- The two unions list the same stamps in different orders. -/
theorem isFunction_iff_stamped {v : Nat} (hv : v ≤ 40) (x y : Nat) : isFunction v x y = true ↔ Stamped v x y := by
  simp only [isFunction, Bool.or_eq_true, inTiming_iff, inFinder_iff, inFormat_iff, isDarkModule_iff,
    inVersionInfo_iff, inAlignment_iff hv, Stamped, or_assoc]
  exact Iff.of_eq (by ac_rfl)

/-- Settles O50: each stamp of the model is the spec's. -/
theorem functionMapIsUnionOfStamps : Obligations.FunctionMapIsUnionOfStamps :=
  fun _ x y _ hv _ _ => isFunction_iff_stamped hv x y

theorem isFunction_of_inFinder {v x y : Nat} (h : inFinder (sideLen v) x y = true) : isFunction v x y = true := by
  simp [isFunction, h]

/-- In the last cell's row and column only an alignment square could lie, and the last centre's ends short of it. -/
theorem not_stamped_last {v : Nat} (hv : 1 ≤ v) (hv' : v ≤ 40) :
    ¬ Stamped v (17 + 4 * v - 1) (17 + 4 * v - 1) := by
  rintro (h | h | h | ⟨cx, hcx, cy, hcy, h⟩ | h | h | h | h | h | h | h | h)
  case inr.inr.inr.inl =>
    obtain ⟨-, hfar⟩ := alignCentres_bounds v hv' cx hcx
    omega
  all_goals omega

/-! ### The mirror image of the map (45_function_modules.md R228) -/

theorem inTiming_swap (x y : Nat) : inTiming x y = inTiming y x := Bool.or_comm ..

theorem inFinder_swap (v x y : Nat) : inFinder (sideLen v) x y = inFinder (sideLen v) y x := by
  rw [Bool.eq_iff_iff, inFinder_iff, inFinder_iff]
  omega

theorem inFormat_swap (v x y : Nat) : inFormat (sideLen v) x y = inFormat (sideLen v) y x := by
  rw [Bool.eq_iff_iff, inFormat_iff, inFormat_iff]
  omega

theorem inVersionInfo_swap (v x y : Nat) :
    inVersionInfo v (sideLen v) x y = inVersionInfo v (sideLen v) y x := by
  rw [Bool.eq_iff_iff, inVersionInfo_iff, inVersionInfo_iff]
  omega

theorem inAlignment_of_swap {v x y : Nat} (hv : v ≤ 40) (h : inAlignment v x y = true) : inAlignment v y x = true := by
  rw [inAlignment_iff hv] at h ⊢
  obtain ⟨cx, hcx, cy, hcy, h⟩ := h
  exact ⟨cy, hcy, cx, hcx, by omega⟩

/-- The dark module has no mirror image of its own: the format area covers it. -/
theorem inFormat_or_isDarkModule (v x y : Nat) :
    (inFormat (sideLen v) x y || isDarkModule (sideLen v) x y) = inFormat (sideLen v) x y := by
  rw [Bool.or_eq_left_iff_imp, isDarkModule_iff, inFormat_iff]
  omega

theorem isFunction_swap {v : Nat} (hv : v ≤ 40) (x y : Nat) : isFunction v x y = isFunction v y x := by
  have halign : inAlignment v x y = inAlignment v y x :=
    Bool.eq_iff_iff.mpr ⟨inAlignment_of_swap hv, inAlignment_of_swap hv⟩
  simp only [isFunction, Bool.or_assoc _ (inFormat _ _ _), inFormat_or_isDarkModule]
  rw [inTiming_swap, inFinder_swap, inFormat_swap, inVersionInfo_swap, halign]

end Sys2Proof.Machine
end

section
/-! SUPPORT. The row ranges and counts of the function-module map (45_function_modules.md section 2): the scan of a row
yields its maximal runs, whose lengths count the row's data modules. -/

namespace Sys2Proof.Machine

open Sys2Proof.Rules

/-! ### The scan of a row (45_function_modules.md R222) -/

/-- What the scan knows at place `x`: the run that place x - 1 belongs to starts at `st`, or there is none. -/
def OpenRun (p : Nat → Bool) (x : Nat) : Option Nat → Prop
  | none => x = 0 ∨ p (x - 1) = false
  | some st => st < x ∧ (∀ i, st ≤ i → i < x → p i = true) ∧ (st = 0 ∨ p (st - 1) = false)

/-- The run `r` = (start, length) lies below `e`, all of `p`, and neither side extends it. -/
structure MaximalRun (p : Nat → Bool) (e : Nat) (r : Nat × Nat) : Prop where
  pos : 0 < r.2
  le : r.1 + r.2 ≤ e
  holds : ∀ i, r.1 ≤ i → i < r.1 + r.2 → p i = true
  left : r.1 = 0 ∨ p (r.1 - 1) = false
  right : r.1 + r.2 = e ∨ p (r.1 + r.2) = false

section

variable {p : Nat → Bool} {n x st e : Nat} {o : Option Nat}

theorem openRun_zero (p : Nat → Bool) : OpenRun p 0 none := .inl rfl

theorem OpenRun.lt (h : OpenRun p x (some st)) : st < x := h.1

theorem OpenRun.add_sub (h : OpenRun p x (some st)) : st + (x - st) = x := Nat.add_sub_cancel' h.lt.le

theorem OpenRun.start (h : OpenRun p x none) (hx : p x = true) : OpenRun p (x + 1) (some x) :=
  ⟨x.lt_succ_self, fun _ hi hi' => Nat.le_antisymm hi (Nat.le_of_lt_succ hi') ▸ hx, h⟩

theorem OpenRun.extend (h : OpenRun p x (some st)) (hx : p x = true) : OpenRun p (x + 1) (some st) := by
  obtain ⟨hst, hrun, hleft⟩ := h
  refine ⟨Nat.lt_succ_of_lt hst, fun i hi hi' => ?_, hleft⟩
  obtain hi' | rfl := Nat.lt_succ_iff_lt_or_eq.mp hi'
  · exact hrun i hi hi'
  · exact hx

theorem OpenRun.skip (hx : ¬ p x = true) : OpenRun p (x + 1) none := .inr (Bool.eq_false_of_not_eq_true hx)

/-- A run that the next place does not continue is maximal. -/
theorem OpenRun.close (h : OpenRun p x (some st)) (hle : x ≤ e) (hright : x = e ∨ p x = false) :
    MaximalRun p e (st, x - st) := by
  have hend := h.add_sub
  obtain ⟨hst, hrun, hleft⟩ := h
  exact ⟨Nat.sub_pos_of_lt hst, hend.trans_le hle, fun i hi hi' => hrun i hi (hi'.trans_eq hend), hleft,
    by rwa [hend]⟩

theorem maximalRun_of_mem_runsFrom (ho : OpenRun p x o) (he : x + n = e) :
    ∀ r ∈ runsFrom p n x o, MaximalRun p e r := by
  fun_induction runsFrom p n x o with
  | case1 x => exact fun r hr => nomatch hr
  | case2 x st => exact List.forall_mem_singleton.mpr (ho.close he.le (.inl he))
  | case3 n x hx ih => exact ih (ho.start hx) (by omega)
  | case4 n x hx ih => exact ih (.skip hx) (by omega)
  | case5 n x st hx ih => exact ih (ho.extend hx) (by omega)
  | case6 n x st hx ih =>
    refine List.forall_mem_cons.mpr ⟨ho.close (by omega) (.inr (Bool.eq_false_of_not_eq_true hx)), ?_⟩
    exact ih (.skip hx) (by omega)

theorem le_of_mem_runsFrom (ho : OpenRun p x o) : ∀ r ∈ runsFrom p n x o, o.getD x ≤ r.1 := by
  fun_induction runsFrom p n x o with
  | case1 x => exact fun r hr => nomatch hr
  | case2 x st => exact List.forall_mem_singleton.mpr le_rfl
  | case3 n x hx ih => exact ih (ho.start hx)
  | case4 n x hx ih => exact fun r hr => Nat.le_of_succ_le (ih (.skip hx) r hr)
  | case5 n x st hx ih => exact ih (ho.extend hx)
  | case6 n x st hx ih =>
    exact List.forall_mem_cons.mpr ⟨le_rfl, fun r hr => ho.lt.le.trans (Nat.le_of_succ_le (ih (.skip hx) r hr))⟩

/-- The place that closes a run stands between it and the runs after it. -/
theorem pairwise_runsFrom (ho : OpenRun p x o) : (runsFrom p n x o).Pairwise (fun r q => r.1 + r.2 < q.1) := by
  fun_induction runsFrom p n x o with
  | case1 x => exact .nil
  | case2 x st => exact List.pairwise_singleton ..
  | case3 n x hx ih => exact ih (ho.start hx)
  | case4 n x hx ih => exact ih (.skip hx)
  | case5 n x st hx ih => exact ih (ho.extend hx)
  | case6 n x st hx ih =>
    refine List.pairwise_cons.mpr ⟨fun q hq => ?_, ih (.skip hx)⟩
    exact ho.add_sub.trans_lt (le_of_mem_runsFrom (.skip hx) q hq)

theorem exists_mem_runsFrom (ho : OpenRun p x o) {i : Nat} (hi : o.getD x ≤ i) (hi' : i < x + n) (hp : p i = true) :
    ∃ r ∈ runsFrom p n x o, r.1 ≤ i ∧ i < r.1 + r.2 := by
  fun_induction runsFrom p n x o with
  | case1 x => exact absurd hi' (Nat.not_lt.mpr hi)
  | case2 x st => exact ⟨_, List.mem_singleton_self _, hi, hi'.trans_eq ho.add_sub.symm⟩
  | case3 n x hx ih => exact ih (ho.start hx) hi (by omega)
  | case4 n x hx ih =>
    have hne : i ≠ x := fun e => hx (e ▸ hp)
    have hi : x ≤ i := hi
    exact ih (.skip hx) (show x + 1 ≤ i by omega) (by omega)
  | case5 n x st hx ih => exact ih (ho.extend hx) hi (by omega)
  | case6 n x st hx ih =>
    obtain hlt | heq | hgt := Nat.lt_trichotomy i x
    · exact ⟨_, List.mem_cons_self .., hi, hlt.trans_eq ho.add_sub.symm⟩
    · exact absurd (heq ▸ hp) hx
    · obtain ⟨r, hr, hri⟩ := ih (.skip hx) hgt (by omega)
      exact ⟨r, List.mem_cons_of_mem _ hr, hri⟩

/-- The runs' lengths count the places of `p`, those of the open run among them. -/
theorem sum_snd_runsFrom (ho : OpenRun p x o) :
    ((runsFrom p n x o).map Prod.snd).sum = (x - o.getD x) + (List.range' x n).countP p := by
  fun_induction runsFrom p n x o with
  | case1 x => simp
  | case2 x st => simp
  | case3 n x hx ih =>
    rw [ih (ho.start hx), List.range'_succ, List.countP_cons_of_pos hx]
    simp [Nat.add_comm]
  | case4 n x hx ih =>
    rw [ih (.skip hx), List.range'_succ, List.countP_cons_of_neg hx]
    simp
  | case5 n x st hx ih =>
    have hst := ho.lt
    rw [ih (ho.extend hx), List.range'_succ, List.countP_cons_of_pos hx]
    simp only [Option.getD_some]
    omega
  | case6 n x st hx ih =>
    rw [List.map_cons, List.sum_cons, ih (.skip hx), List.range'_succ, List.countP_cons_of_neg hx]
    simp

end

/-! ### Row ranges and counts of a version (45_function_modules.md R220, R222) -/

/-- Settles O54: a row's scan starts with no open run, and at its first place. -/
theorem rowRangesAreMaximalRuns : Obligations.RowRangesAreMaximalRuns := by
  intro v y _ _ _
  have ho := openRun_zero (fun x => !isFunction v x y)
  refine ⟨fun r hr => ?_, pairwise_runsFrom ho, fun x hx hF => ?_⟩
  · obtain ⟨hpos, hle, hholds, hleft, hright⟩ := maximalRun_of_mem_runsFrom ho (Nat.zero_add _) r hr
    simp only [Bool.not_eq_true', Bool.not_eq_false'] at hholds hleft hright
    exact ⟨hpos, hle, hholds, hleft, hright⟩
  · exact exists_mem_runsFrom ho x.zero_le (hx.trans_eq (Nat.zero_add _).symm) (by simp [hF])

/-- The ranges of a row hold its data modules. -/
theorem sum_snd_rowRanges (v y : Nat) : ((rowRanges v y).map Prod.snd).sum = rowDataCount v y := by
  have ho := openRun_zero (fun x => !isFunction v x y)
  rw [rowRanges, sum_snd_runsFrom ho, Option.getD_none, Nat.sub_self, Nat.zero_add, ← List.range_eq_range',
    rowDataCount]

theorem rowDataCount_eq_card (v y : Nat) :
    rowDataCount v y = ((Finset.range (sideLen v)).filter (fun x => isFunction v x y = false)).card := by
  simp [rowDataCount, Finset.card, Finset.range, Multiset.range, List.countP_eq_length_filter]

/-- Settles O53: DM(v) adds up the rows of the symbol. -/
theorem dataModuleCount : Obligations.DataModuleCount := by
  refine fun v _ _ => ⟨?_, rfl⟩
  calc dataModules v = ∑ y ∈ Finset.range (sideLen v), rowDataCount v y := rfl
    _ = _ := by
      simp only [rowDataCount_eq_card, Finset.card_filter, Finset.sum_product_right, sideLen]

/-- Settles O52: of the map all four laws follow from its stamps, and from the rows' runs. -/
theorem functionMapLaws : Obligations.FunctionMapLaws := by
  intro v hv hv'
  refine ⟨fun x y _ _ => ⟨fun hfinder => ?_, isFunction_swap hv' x y⟩, ?_, ?_⟩
  · exact isFunction_of_inFinder ((inFinder_iff v x y).mpr hfinder)
  · exact Bool.eq_false_of_not_eq_true (mt (isFunction_iff_stamped hv' _ _).mp (not_stamped_last hv hv'))
  · simp only [sum_snd_rowRanges]
    rfl

/-- Settles O55: the symbols of versions 1, 2 and 7 are small enough to compute the tables' rows. -/
theorem workedSymbolTables : Obligations.WorkedSymbolTables := by
  unfold Obligations.WorkedSymbolTables
  decide +kernel

end Sys2Proof.Machine
end

section
/-! SUPPORT. The function-module commands (45_function_modules.md section 3): the outcome of each, check by check, and
the valid bit a completed one sets. -/

namespace Sys2Proof.Machine

open Sys2Proof.Rules

/-! ### Checks and the valid bit (45_function_modules.md R210, R223) -/

theorem isVersion_of_range {v : Nat} (h : v < 1 ∨ 40 < v) : isVersion v = false := by
  simp only [isVersion, Bool.and_eq_false_iff, decide_eq_false_iff_not]
  omega

theorem isVersion_of_le {v : Nat} (h : 1 ≤ v) (h' : v ≤ 40) : isVersion v = true := by
  simp [isVersion, h, h']

/-- Marking a version sets its valid bit and no other. -/
theorem State.fmcValid_markFmc (s : State) {v j : Nat} (hv : 1 ≤ v) (hv' : v ≤ 40) (hj : 1 ≤ j) :
    (s.markFmc v).fmcValid j = (decide (j = v) || s.fmcValid j) := by
  have hbit : v - 1 = j - 1 ↔ j = v := by omega
  have hlt : v - 1 < 40 := by omega
  simp [State.fmcValid, BitVec.getLsbD_twoPow, hbit, hlt, Bool.or_comm]

/-- The first check of every FM command: a version outside 1..40 ends it. -/
theorem versionCheck_of_false {v : Nat} (h : isVersion v = false) (r : Effect) :
    (if !isVersion v then .error .outOfRange else r) = Except.error .outOfRange := by
  simp [h]

theorem versionCheck_of_true {v : Nat} (h : isVersion v = true) (r : Effect) :
    (if !isVersion v then .error .outOfRange else r) = r := by
  simp [h]

/-! ### The outcomes of the commands (45_function_modules.md R224 to R227) -/

section

variable {s : State}

theorem exec_fm_of_not_version (h : isVersion s.int0 = false) {i : Instr}
    (hi : i ∈ [Instr.fmLoad, .fmQuery, .fmRowcnt, .fmRowrange]) : exec i s = .next (ended s .outOfRange) := by
  simp only [List.mem_cons, List.not_mem_nil, or_false] at hi
  obtain rfl | rfl | rfl | rfl := hi
  all_goals exact congrArg (done s) (versionCheck_of_false h _)

theorem exec_fmLoad_of_version (h : isVersion s.int0 = true) :
    exec .fmLoad s = .next { ended s .ok with
      fmc := (s.markFmc s.int0).fmc
      res0 := BitVec.ofNat 32 (dataModules s.int0), res1 := BitVec.ofNat 32 (totalCodewords s.int0) } :=
  congrArg (done s) (versionCheck_of_true h _)

theorem exec_fmQuery_of_range (h : isVersion s.int0 = true)
    (hxy : s.int1 ≥ sideLen s.int0 ∨ s.int2 ≥ sideLen s.int0) : exec .fmQuery s = .next (ended s .outOfRange) :=
  congrArg (done s) ((versionCheck_of_true h _).trans (if_pos hxy))

theorem exec_fmQuery_of_cell (h : isVersion s.int0 = true)
    (hxy : ¬ (s.int1 ≥ sideLen s.int0 ∨ s.int2 ≥ sideLen s.int0)) :
    exec .fmQuery s = .next { ended s .ok with
      fmc := (s.markFmc s.int0).fmc, res0 := zextBit (isFunction s.int0 s.int1 s.int2) } :=
  congrArg (done s) ((versionCheck_of_true h _).trans (if_neg hxy))

theorem exec_fmRowcnt_of_range (h : isVersion s.int0 = true) (hy : s.int1 ≥ sideLen s.int0) :
    exec .fmRowcnt s = .next (ended s .outOfRange) :=
  congrArg (done s) ((versionCheck_of_true h _).trans (if_pos hy))

theorem exec_fmRowcnt_of_row (h : isVersion s.int0 = true) (hy : ¬ s.int1 ≥ sideLen s.int0) :
    exec .fmRowcnt s = .next { ended s .ok with
      fmc := (s.markFmc s.int0).fmc, res0 := BitVec.ofNat 32 (rowRanges s.int0 s.int1).length } :=
  congrArg (done s) ((versionCheck_of_true h _).trans (if_neg hy))

theorem exec_fmRowrange_of_range (h : isVersion s.int0 = true) (hy : s.int1 ≥ sideLen s.int0) :
    exec .fmRowrange s = .next (ended s .outOfRange) :=
  congrArg (done s) ((versionCheck_of_true h _).trans (if_pos hy))

theorem exec_fmRowrange_of_none (h : isVersion s.int0 = true) (hy : ¬ s.int1 ≥ sideLen s.int0)
    (hk : (rowRanges s.int0 s.int1)[s.int2]? = none) : exec .fmRowrange s = .next (ended s .outOfRange) := by
  rw [exec, execFmRowrange, versionCheck_of_true h, if_neg hy, hk]
  rfl

theorem exec_fmRowrange_of_some (h : isVersion s.int0 = true) (hy : ¬ s.int1 ≥ sideLen s.int0) {r : Nat × Nat}
    (hk : (rowRanges s.int0 s.int1)[s.int2]? = some r) :
    exec .fmRowrange s = .next { ended s .ok with
      fmc := (s.markFmc s.int0).fmc, res0 := BitVec.ofNat 32 r.1, res1 := BitVec.ofNat 32 r.2 } := by
  rw [exec, execFmRowrange, versionCheck_of_true h, if_neg hy, hk]
  rfl

end

/-- Settles O56: the checks of each command in order, and the one valid bit a completed command sets. -/
theorem fmCommandResults : Obligations.FmCommandResults := by
  refine ⟨encodeThenDecode .fmLoad, encodeThenDecode .fmQuery, encodeThenDecode .fmRowcnt,
    encodeThenDecode .fmRowrange, ?_⟩
  rintro s v a k rfl rfl rfl
  refine ⟨fun hv i hi => exec_fm_of_not_version (isVersion_of_range hv) hi, fun hv hv' => ?_⟩
  have hversion : isVersion s.int0 = true := isVersion_of_le hv hv'
  refine ⟨fun ha i hi => ?_, fun hk => exec_fmQuery_of_range hversion (.inr hk), fun ha hk => ?_,
    (s.markFmc s.int0).fmc, fun j hj _ => s.fmcValid_markFmc hv hv' hj, exec_fmLoad_of_version hversion,
    fun ha hk => ?_, fun ha => exec_fmRowcnt_of_row hversion (Nat.not_le.mpr ha), fun ha r hr => ?_⟩
  · simp only [List.mem_cons, List.not_mem_nil, or_false] at hi
    obtain rfl | rfl | rfl := hi
    · exact exec_fmQuery_of_range hversion (.inl ha)
    · exact exec_fmRowcnt_of_range hversion ha
    · exact exec_fmRowrange_of_range hversion ha
  · exact exec_fmRowrange_of_none hversion (Nat.not_le.mpr ha) (List.getElem?_eq_none hk)
  · rw [← zextBit_eq_ite]
    exact exec_fmQuery_of_cell hversion (not_or.mpr ⟨Nat.not_le.mpr ha, Nat.not_le.mpr hk⟩)
  · exact exec_fmRowrange_of_some hversion (Nat.not_le.mpr ha) hr

end Sys2Proof.Machine
end

section
/-! SUPPORT. The placement order (46_placer.md section 2): ZZ(v) as its 8 + 2·v column pairs one after the other, the
cells of a pair and their order, and the pair a column lies in. -/

namespace Sys2Proof.Machine

/-! ### One column pair (46_placer.md R243) -/

/-- The row a pair visits at a step, bottom to top when `up`; equally, the step at which it visits a row. -/
def rowOfStep (v : Nat) (up : Bool) (i : Nat) : Nat := if up then sideLen v - 1 - i else i

theorem rowOfStep_lt {v : Nat} (up : Bool) {i : Nat} (h : i < sideLen v) : rowOfStep v up i < sideLen v := by
  cases up
  · exact h
  · exact (Nat.sub_le _ _).trans_lt (Nat.sub_one_lt_of_lt h)

theorem rowOfStep_rowOfStep {v : Nat} (up : Bool) {i : Nat} (h : i < sideLen v) :
    rowOfStep v up (rowOfStep v up i) = i := by
  cases up
  · rfl
  · exact Nat.sub_sub_self (Nat.le_sub_one_of_lt h)

/-- The data cells a pair with right column `x` visits at one step. -/
def rowCells (v x : Nat) (up : Bool) (i : Nat) : List (Nat × Nat) :=
  [(x, rowOfStep v up i), (x - 1, rowOfStep v up i)].filter (fun c => !isFunction v c.1 c.2)

theorem pairCells_eq_flatMap (v x : Nat) (up : Bool) :
    pairCells v x up = (List.range (sideLen v)).flatMap (rowCells v x up) := rfl

theorem mem_rowCells {v x i : Nat} {up : Bool} {c : Nat × Nat} :
    c ∈ rowCells v x up i ↔
      (c.1 = x ∨ c.1 = x - 1) ∧ c.2 = rowOfStep v up i ∧ isFunction v c.1 c.2 = false := by
  simp only [rowCells, List.mem_filter, List.mem_cons, List.not_mem_nil, or_false, Prod.ext_iff, Bool.not_eq_true']
  tauto

theorem mem_pairCells {v x : Nat} {up : Bool} {c : Nat × Nat} :
    c ∈ pairCells v x up ↔ (c.1 = x ∨ c.1 = x - 1) ∧ c.2 < sideLen v ∧ isFunction v c.1 c.2 = false := by
  simp only [pairCells_eq_flatMap, List.mem_flatMap, List.mem_range, mem_rowCells]
  constructor
  · rintro ⟨i, hi, hx, hy, hF⟩
    exact ⟨hx, hy ▸ rowOfStep_lt up hi, hF⟩
  · rintro ⟨hx, hy, hF⟩
    exact ⟨_, rowOfStep_lt up hy, hx, (rowOfStep_rowOfStep up hy).symm, hF⟩

/-- Inside a pair an earlier step comes first, and in a row the right cell. -/
def BeforeInPair (v : Nat) (up : Bool) (p q : Nat × Nat) : Prop :=
  rowOfStep v up p.2 < rowOfStep v up q.2 ∨ (p.2 = q.2 ∧ q.1 < p.1)

theorem pairwise_pairCells {v x : Nat} (up : Bool) (hx : 0 < x) :
    (pairCells v x up).Pairwise (BeforeInPair v up) := by
  refine List.pairwise_flatMap.mpr ⟨fun i _ => ?_, ?_⟩
  · exact .filter _ (List.pairwise_pair.mpr (.inr ⟨rfl, Nat.sub_one_lt_of_lt hx⟩))
  · refine List.pairwise_lt_range.imp_of_mem fun {i j} hi hj hij p hp q hq => .inl ?_
    obtain ⟨-, hpy, -⟩ := mem_rowCells.mp hp
    obtain ⟨-, hqy, -⟩ := mem_rowCells.mp hq
    rwa [hpy, hqy, rowOfStep_rowOfStep up (List.mem_range.mp hi), rowOfStep_rowOfStep up (List.mem_range.mp hj)]

/-! ### The column pairs of a symbol (46_placer.md R243) -/

/-- The right column of pair `k`: pairs are counted from the right, and those left of column 6 lie one further left. -/
def rightColumn (v k : Nat) : Nat := if k < 2 * v + 5 then 16 + 4 * v - 2 * k else 15 + 4 * v - 2 * k

/-- The number of the pair column `x` lies in, column 6 left out. -/
def pairNumber (v x : Nat) : Nat := (17 + 4 * v - 2 - (if x < 6 then x else x - 1)) / 2

theorem rightColumn_pos {v k : Nat} (hk : k < 2 * v + 8) : 0 < rightColumn v k := by
  unfold rightColumn
  split <;> omega

theorem pairNumber_of_column {v k x : Nat} (hk : k < 2 * v + 8) (hx : x = rightColumn v k ∨ x = rightColumn v k - 1) :
    pairNumber v x = k := by
  unfold rightColumn at hx
  unfold pairNumber
  split at hx <;> split <;> omega

/-- The columns of the pairs are those of the symbol but column 6. -/
theorem exists_pair_iff (v x : Nat) :
    (∃ k < 2 * v + 8, x = rightColumn v k ∨ x = rightColumn v k - 1) ↔ x < sideLen v ∧ x ≠ 6 := by
  constructor
  · rintro ⟨k, hk, hx⟩
    unfold rightColumn at hx
    unfold sideLen
    split at hx <;> omega
  · rintro ⟨hx, hne⟩
    unfold sideLen at hx
    refine ⟨pairNumber v x, ?_, ?_⟩
    · unfold pairNumber
      split <;> omega
    · unfold pairNumber rightColumn
      split <;> split <;> omega

/-! ### The whole order (46_placer.md R243) -/

/-- The data cells of pair `k`: pair 0 runs bottom to top, and directions alternate. -/
def pairAt (v k : Nat) : List (Nat × Nat) := pairCells v (rightColumn v k) (decide (k % 2 = 0))

/-- From the column where pair `k` begins, or from column 6 before it, the walk goes through the `m` pairs left. -/
theorem zigzagFrom_eq_flatMap {v k m : Nat} (hkm : k + m = 2 * v + 8) {n x : Nat} (hmn : m ≤ n)
    (hx : (if x = 6 then 5 else x) = rightColumn v k) :
    zigzagFrom v n x (decide (k % 2 = 0)) = (List.range' k m).flatMap (pairAt v) := by
  induction m generalizing k n x with
  | zero =>
    have hx0 : x = 0 := by
      unfold rightColumn at hx
      split at hx <;> split at hx <;> omega
    cases n <;> simp [zigzagFrom, hx0]
  | succ m ih =>
    obtain ⟨n, rfl⟩ := Nat.exists_eq_add_of_le' (Nat.one_le_of_lt hmn)
    have hpos : 0 < rightColumn v k := rightColumn_pos (by omega)
    have hx0 : x ≠ 0 := by
      rintro rfl
      exact hpos.ne hx
    have hturn : (!decide (k % 2 = 0)) = decide ((k + 1) % 2 = 0) := by
      rw [← decide_not]
      exact decide_eq_decide.mpr (by omega)
    have hnext : (if rightColumn v k - 2 = 6 then 5 else rightColumn v k - 2) = rightColumn v (k + 1) := by
      unfold rightColumn
      split <;> split <;> split <;> omega
    simp only [zigzagFrom, if_neg hx0, hx, hturn, List.range'_succ, List.flatMap_cons]
    rw [ih (by omega) (by omega) hnext, pairAt]

theorem zigzag_eq_flatMap (v : Nat) : zigzag v = (List.range (2 * v + 8)).flatMap (pairAt v) := by
  have hx : (if sideLen v - 1 = 6 then 5 else sideLen v - 1) = rightColumn v 0 := by
    unfold sideLen rightColumn
    split <;> split <;> omega
  rw [zigzag, List.range_eq_range']
  exact zigzagFrom_eq_flatMap (Nat.zero_add _) (by unfold sideLen; omega) hx

/-- Of a pair's two columns neither is column 6, and that one holds function modules only (45_function_modules.md
R215). -/
theorem mem_zigzag_iff {v x y : Nat} :
    (x, y) ∈ zigzag v ↔ x < sideLen v ∧ y < sideLen v ∧ isFunction v x y = false := by
  have hcol : isFunction v x y = false → x ≠ 6 := by
    rintro hF rfl
    simp [isFunction, inTiming] at hF
  have hpair := exists_pair_iff v x
  simp only [zigzag_eq_flatMap, List.mem_flatMap, List.mem_range, pairAt, mem_pairCells]
  constructor
  · rintro ⟨k, hk, hx, hy, hF⟩
    exact ⟨(hpair.mp ⟨k, hk, hx⟩).1, hy, hF⟩
  · rintro ⟨hx, hy, hF⟩
    obtain ⟨k, hk, hxk⟩ := hpair.mpr ⟨hx, hcol hF⟩
    exact ⟨k, hk, hxk, hy, hF⟩

theorem pairNumber_of_mem_pairAt {v k : Nat} (hk : k ∈ List.range (2 * v + 8)) {c : Nat × Nat}
    (hc : c ∈ pairAt v k) : pairNumber v c.1 = k :=
  pairNumber_of_column (List.mem_range.mp hk) (mem_pairCells.mp hc).1

/-- Of two cells, the one in the lower pair comes first, and in a pair `BeforeInPair` decides. -/
def ZigzagBefore (v : Nat) (p q : Nat × Nat) : Prop :=
  pairNumber v p.1 < pairNumber v q.1 ∨
    (pairNumber v p.1 = pairNumber v q.1 ∧ BeforeInPair v (decide (pairNumber v p.1 % 2 = 0)) p q)

theorem pairwise_zigzag (v : Nat) : (zigzag v).Pairwise (ZigzagBefore v) := by
  rw [zigzag_eq_flatMap]
  refine List.pairwise_flatMap.mpr ⟨fun k hk => ?_, ?_⟩
  · have hpair := pairwise_pairCells (v := v) (decide (k % 2 = 0)) (rightColumn_pos (List.mem_range.mp hk))
    refine hpair.imp_of_mem fun hp hq hpq => .inr ?_
    rw [pairNumber_of_mem_pairAt hk hp, pairNumber_of_mem_pairAt hk hq]
    exact ⟨rfl, hpq⟩
  · refine List.pairwise_lt_range.imp_of_mem fun hk hl hkl p hp q hq => .inl ?_
    rwa [pairNumber_of_mem_pairAt hk hp, pairNumber_of_mem_pairAt hl hq]

theorem ZigzagBefore.ne {v : Nat} {p q : Nat × Nat} (h : ZigzagBefore v p q) : p ≠ q := by
  rintro rfl
  obtain h | ⟨-, h | ⟨-, h⟩⟩ := h <;> exact Nat.lt_irrefl _ h

theorem nodup_zigzag (v : Nat) : (zigzag v).Nodup := (pairwise_zigzag v).imp ZigzagBefore.ne

/-- ZZ(v) lists the cells that DM(v) counts (45_function_modules.md R220). -/
theorem length_zigzag {v : Nat} (hv : 1 ≤ v) (hv' : v ≤ 40) : (zigzag v).length = dataModules v := by
  rw [(dataModuleCount v hv hv').1, ← List.toFinset_card_of_nodup (nodup_zigzag v)]
  congr 1
  ext ⟨x, y⟩
  simp [mem_zigzag_iff, sideLen, and_assoc]

/-- Settles O59: the row decides by its step, whose direction is the same for both cells of a pair. -/
theorem zigzagOrder : Obligations.ZigzagOrder := by
  refine fun v _ _ => (pairwise_zigzag v).imp fun {p q} hpq => hpq.imp_right fun ⟨hpair, hin⟩ => ?_
  refine ⟨hpair, hin.imp_left fun hstep => ?_⟩
  simp only [rowOfStep, decide_eq_true_eq] at hstep
  show _ < if pairNumber v q.1 % 2 = 0 then _ else _
  rwa [← hpair]

/-- Settles O58: the order's pairs cover every column but 6, and no cell comes before itself. -/
theorem zigzagVisitsEachDataCellOnce : Obligations.ZigzagVisitsEachDataCellOnce :=
  fun v hv hv' => ⟨length_zigzag hv hv', nodup_zigzag v, fun _ _ => mem_zigzag_iff⟩

end Sys2Proof.Machine
end

section
/-! SUPPORT. The matrix commands and PLACE (46_placer.md sections 1 and 3): a matrix cell after a write and after the
placement, and the outcome of each command, check by check. -/

namespace Sys2Proof.Machine

open Sys2Proof.Rules

/-! ### Cells after a write (46_placer.md R242, R244) -/

theorem cellIndex_eq_iff {x y x' y' : Nat} (hy : y < 177) (hy' : y' < 177) :
    cellIndex x y = cellIndex x' y' ↔ x = x' ∧ y = y' :=
  ⟨cellIndex_inj hy hy', fun ⟨hx, hy⟩ => congrArg₂ cellIndex hx hy⟩

/-- Of cells at different places the i-th takes the i-th bit, and keeps its own where there is none. -/
theorem readBit_placeBits {cs : List (Nat × Nat)}
    (hcs : cs.Pairwise (fun c d => cellIndex c.1 c.2 ≠ cellIndex d.1 d.2)) (m : Memory) (vs : List Bool) {i : Nat}
    {c : Nat × Nat} (hi : cs[i]? = some c) :
    (placeBits m cs vs).readBit (cellIndex c.1 c.2) = (vs[i]?).getD (m.readBit (cellIndex c.1 c.2)) := by
  induction cs generalizing m vs i with
  | nil => cases hi
  | cons d cs ih =>
    obtain ⟨hd, hcs⟩ := List.pairwise_cons.mp hcs
    cases vs with
    | nil => rfl
    | cons v vs =>
      rw [placeBits]
      cases i with
      | zero =>
        obtain rfl : d = c := Option.some.inj hi
        rw [readBit_placeBits_other cs _ (fun e he => (hd e he).symm), Memory.readBit_writeBit, if_pos rfl]
        rfl
      | succ i =>
        have hc : c ∈ cs := List.mem_of_getElem? hi
        rw [ih hcs _ _ hi, Memory.readBit_writeBit, if_neg (hd c hc).symm]
        rfl

/-- The placement order's cells lie at different places of the matrix store. -/
theorem pairwise_cellIndex_zigzag {v : Nat} (hv : v ≤ 40) :
    (zigzag v).Pairwise (fun c d => cellIndex c.1 c.2 ≠ cellIndex d.1 d.2) := by
  have hside := sideLen_le hv
  refine (nodup_zigzag v).imp_of_mem fun hc hd hne hcd => hne ?_
  obtain ⟨hx, hy⟩ := cellIndex_inj ((mem_zigzag_lt hc).2.trans_le hside) ((mem_zigzag_lt hd).2.trans_le hside) hcd
  exact Prod.ext hx hy

/-- A cell that is no data module of the symbol keeps its value. -/
theorem readBit_placeBits_zigzag_other {v : Nat} (hv : v ≤ 40) {x y : Nat} (hy : y < 177)
    (hxy : isFunction v x y = true ∨ sideLen v ≤ x ∨ sideLen v ≤ y) (m : Memory) (vs : List Bool) :
    (placeBits m (zigzag v) vs).readBit (cellIndex x y) = m.readBit (cellIndex x y) := by
  refine readBit_placeBits_other _ _ (fun c hc hcxy => ?_) m vs
  obtain ⟨rfl, rfl⟩ := cellIndex_inj ((mem_zigzag_lt hc).2.trans_le (sideLen_le hv)) hy hcxy
  obtain ⟨hxin, hyin, hF⟩ := mem_zigzag_iff.mp hc
  obtain hF' | hx | hy := hxy
  · exact Bool.false_ne_true (hF.symm.trans hF')
  · exact Nat.not_le.mpr hxin hx
  · exact Nat.not_le.mpr hyin hy

/-! ### The outcomes of the commands (46_placer.md R240 to R242, R244) -/

section

variable {s : State} {b : BSel}

theorem exec_matInit_of_range (h : isVersion s.int0 = false) : exec .matInit s = .next (ended s .outOfRange) :=
  congrArg (done s) (versionCheck_of_false h _)

theorem exec_matInit_of_version (h : isVersion s.int0 = true) :
    exec .matInit s = .next { ended s .ok with mv := s.int0, mat := [] } :=
  congrArg (done s) (versionCheck_of_true h _)

theorem exec_matRead_of_no_version (h : s.mv = 0) : exec .matRead s = .next (ended s .invalidArgument) :=
  congrArg (done s) (if_pos h)

theorem exec_matWrite_of_no_version (h : s.mv = 0) : exec .matWrite s = .next (ended s .invalidArgument) :=
  congrArg (done s) (if_pos h)

theorem exec_place_of_no_version (h : s.mv = 0) : exec (.place b) s = .next (ended s .invalidArgument) :=
  congrArg (done s) (if_pos h)

variable (hmv : s.mv ≠ 0)
include hmv

theorem exec_matRead_of_range (h : s.int0 ≥ sideLen s.mv ∨ s.int1 ≥ sideLen s.mv) :
    exec .matRead s = .next (ended s .outOfRange) :=
  congrArg (done s) ((if_neg hmv).trans (if_pos h))

theorem exec_matRead_of_cell (h : ¬ (s.int0 ≥ sideLen s.mv ∨ s.int1 ≥ sideLen s.mv)) :
    exec .matRead s = .next { ended s .ok with res0 := zextBit (s.cell s.int0 s.int1) } :=
  congrArg (done s) ((if_neg hmv).trans (if_neg h))

theorem exec_matWrite_of_range (h : s.int0 ≥ sideLen s.mv ∨ s.int1 ≥ sideLen s.mv) :
    exec .matWrite s = .next (ended s .outOfRange) :=
  congrArg (done s) ((if_neg hmv).trans (if_pos h))

theorem exec_matWrite_of_cell (h : ¬ (s.int0 ≥ sideLen s.mv ∨ s.int1 ≥ sideLen s.mv)) :
    exec .matWrite s =
      .next { ended s .ok with mat := s.mat.writeBit (cellIndex s.int0 s.int1) (s.latch.a2.getLsbD 0) } :=
  congrArg (done s) ((if_neg hmv).trans (if_neg h))

theorem exec_place_of_count_ne (h : (s.buf b).count ≠ 8 * totalCodewords s.mv) :
    exec (.place b) s = .next (ended s .invalidArgument) :=
  congrArg (done s) ((if_neg hmv).trans (if_pos h))

theorem exec_place_of_count (h : (s.buf b).count = 8 * totalCodewords s.mv) :
    exec (.place b) s = .next { ended s .ok with
      mat := placeBits s.mat (zigzag s.mv) ((s.buf b).bits.readBits 0 (8 * totalCodewords s.mv))
      fmc := (s.markFmc s.mv).fmc
      res0 := BitVec.ofNat 32 (8 * totalCodewords s.mv)
      res1 := BitVec.ofNat 32 (dataModules s.mv - 8 * totalCodewords s.mv) } :=
  congrArg (done s) ((if_neg hmv).trans (if_neg (not_not_intro h)))

end

/-! ### The statements -/

/-- Settles O57: the checks of each command in order, and a written cell is at no other cell's place. -/
theorem matrixCommandResults : Obligations.MatrixCommandResults := by
  refine ⟨encodeThenDecode .matInit, encodeThenDecode .matRead, encodeThenDecode .matWrite, ?_⟩
  rintro s a c hmv40 rfl rfl
  refine ⟨fun ha => exec_matInit_of_range (isVersion_of_range ha), fun ha ha' => ?_,
    fun hmv => ⟨exec_matRead_of_no_version hmv, exec_matWrite_of_no_version hmv⟩,
    fun hmv hac => ⟨exec_matRead_of_range hmv hac, exec_matWrite_of_range hmv hac⟩, fun hmv ha hc => ?_⟩
  · exact ⟨_, exec_matInit_of_version (isVersion_of_le ha ha'), rfl, fun x y => Memory.readBit_nil _, rfl⟩
  · have hac := not_or.mpr ⟨Nat.not_le.mpr ha, Nat.not_le.mpr hc⟩
    refine ⟨?_, _, exec_matWrite_of_cell hmv hac, rfl, fun x y _ hy => ?_⟩
    · rw [← zextBit_eq_ite]
      exact exec_matRead_of_cell hmv hac
    · have hplace := cellIndex_eq_iff (x := x) (x' := s.int0) hy (hc.trans_le (sideLen_le hmv40))
      exact (Memory.readBit_writeBit ..).trans (ite_congr (propext hplace) (fun _ => rfl) fun _ => rfl)

/-- Settles O60: the i-th cell of the order takes the i-th bit read, of which there are 8·TC(MV). -/
theorem placeResult : Obligations.PlaceResult := by
  refine ⟨encodeThenDecode (.place .b0), encodeThenDecode (.place .b1), fun b s hmv40 => ?_⟩
  refine ⟨exec_place_of_no_version, exec_place_of_count_ne, fun hmv hcount => ?_⟩
  have hcell {i : Nat} {c : Nat × Nat} (hi : (zigzag s.mv)[i]? = some c) := readBit_placeBits
    (pairwise_cellIndex_zigzag hmv40) s.mat ((s.buf b).bits.readBits 0 (8 * totalCodewords s.mv)) hi
  refine ⟨_, exec_place_of_count hmv hcount, fun i c hn hi => ?_, fun x y _ hy hxy => ?_, fun i c hn hi => ?_,
    fun j hj _ => s.fmcValid_markFmc (Nat.pos_of_ne_zero hmv) hmv40 hj, rfl⟩
  · refine (hcell hi).trans ?_
    simp [Memory.readBits, hn]
  · exact readBit_placeBits_zigzag_other hmv40 hy hxy _ _
  · refine (hcell hi).trans ?_
    rw [List.getElem?_eq_none (by rwa [Memory.length_readBits])]
    rfl

end Sys2Proof.Machine
end

section
/-! SUPPORT. Endings and reset (60_exceptions.md, 70_reset_and_hazards.md): no step stops the machine, a failed command
leaves no effect, and the values of the error codes, of reset, and of reads while BUSY = 1. -/

namespace Sys2Proof.Machine

open Sys2Proof.Rules

/-! ### No step stops the machine (60_exceptions.md R260, R270; 20_memory.md R61) -/

theorem exec_continues (i : Instr) (s : State) : Continues (exec i s) := by
  obtain ⟨r, hr⟩ := exec_eq_done i s
  exact ⟨_, hr.trans (done_eq s r)⟩

theorem engineTurn_continues (s : State) : Continues (engineTurn s) := by
  obtain ⟨-, hs⟩ | ⟨-, i, -, hs⟩ | ⟨-, e, -, hs⟩ := engineTurn_cases s
  · exact ⟨_, hs⟩
  · exact hs ▸ exec_continues i s
  · exact ⟨_, hs⟩

theorem perform_continues (e : Event) (s : State) : Continues (perform e s) := by
  cases e with
  | hostWrite | hostRead | platformReset => exact ⟨_, rfl⟩
  | engineTurn => exact engineTurn_continues s

/-- Settles O6: every command is completion, and a step is an event or the engine's turn, neither of which stops. -/
theorem everyStepContinues : Obligations.EveryStepContinues := by
  refine ⟨exec_continues, fun s => ?_⟩
  cases he : s.events with
  | nil => exact step_of_no_event s he ▸ engineTurn_continues s
  | cons e rest => exact step_of_event s e rest he ▸ perform_continues e _

/-! ### Failed commands and error codes (60_exceptions.md R260 to R262) -/

/-- A command that ends with an error code had its writes discarded: only the completion record is left of it. -/
theorem exec_eq_ended_of_err {i : Instr} {s t : State} (h : exec i s = .next t) (herr : t.err ≠ .ok) :
    t = ended s t.err := by
  obtain ⟨r, hr⟩ := exec_eq_done i s
  obtain ⟨u, -, rfl⟩ | ⟨e, -, rfl⟩ := done_cases s t r (hr.symm.trans h)
  · exact absurd rfl herr
  · exact s.complete_eq_ended e

/-- Settles O11: completion writes its record in every command, and an error code means that nothing
else was written. -/
theorem failedCommandHasNoEffect : Obligations.FailedCommandHasNoEffect := by
  intro i s t h
  obtain ⟨hbusy, hlatch, hlastop⟩ := exec_completes h
  exact ⟨hlastop, hbusy, hlatch, exec_overrun h, exec_eq_ended_of_err h⟩

theorem ErrCode.toNat_code_le (e : ErrCode) : e.code.toNat ≤ 6 := by
  cases e <;> decide

/-- Settles O23: bits 7:4 of STATUS are the code of ERR, which has a constructor for the codes 0 to 6 only. -/
theorem errorCodeValues : Obligations.ErrorCodeValues := by
  refine ⟨rfl, rfl, rfl, rfl, rfl, rfl, rfl, fun s => ?_⟩
  obtain ⟨-, -, -, herr, -⟩ := statusLayout.1 s
  rw [herr]
  exact s.err.toNat_code_le

/-! ### Reset (70_reset_and_hazards.md R290, R291) -/

theorem step_platformReset {s : State} {rest : List Event} (h : s.events = .platformReset :: rest) :
    step s = .next (platformReset { s with events := rest }) :=
  step_of_event s _ rest h

/-- No field of STATUS is one that the reset keeps. -/
theorem statusWord_platformReset (s : State) : (platformReset s).statusWord = State.reset.statusWord := rfl

/-- Settles O10: the reset step rebuilds the state from the configuration alone, with empty stores, whose every bit and
coefficient reads 0. -/
theorem resetValues : Obligations.ResetValues := by
  obtain ⟨-, -, hstatus⟩ := statusLayout
  refine ⟨fun s rest h => ⟨_, step_platformReset h, rfl, rfl, rfl, rfl, rfl, rfl, rfl, rfl, rfl,
    (statusWord_platformReset _).trans hstatus, rfl, rfl, rfl, rfl, Memory.readBit_nil, rfl, Memory.readBit_nil,
    rfl, rfl, rfl, Memory.read_nil, Memory.read_nil, Memory.read_nil, fun v => BitVec.getLsbD_zero, rfl,
    fun x y => Memory.readBit_nil _⟩, ?_⟩
  exact ⟨hstatus, rfl, rfl, rfl, rfl, rfl, rfl, rfl, rfl, rfl, rfl, rfl, rfl, rfl, rfl, rfl⟩

theorem State.Inv.resetWith {c : Config} (hc : c.wellFormed = true) : (State.resetWith c).Inv :=
  ⟨hc, fun _ => rfl, .empty, .empty, .empty, .empty, .empty, .empty (Nat.zero_le 40)⟩

/-- Settles O9: the empty stores meet the invariant under every legal configuration, the default one among them. -/
theorem resetHasInvariant : Obligations.ResetHasInvariant :=
  ⟨.resetWith (c := Config.default) rfl, fun _ => .resetWith⟩

/-! ### Reads while BUSY = 1 (70_reset_and_hazards.md R294, R296) -/

/-- A mirror read while BUSY = 1 returns a fresh unspecified value and changes nothing else. -/
theorem step_hostRead_mirror_of_busy {s : State} {off : Nat} {rest : List Event} (hb : s.busy = true)
    (h : s.events = .hostRead 32 off :: rest) (ho : off % 4 = 0) (hm : isMirror (regAt off) = true) :
    step s = .next { s with
      events := rest, readData := Config.mirrorWhileBusy s.draws, draws := s.draws + 1 } := by
  have hd : drawsValue { s with events := rest } (regAt off) = true := by simp [drawsValue, hb, hm]
  rw [step_of_event s _ rest h, perform, hostRead, if_pos (accessDefined_iff.mpr ⟨rfl, ho⟩), readReg, hd]
  rfl

/-- Settles O21: the five offsets name the mirrors, and RES0, RES1 and STATUS are none of them. -/
theorem readsWhileBusy : Obligations.ReadsWhileBusy := by
  have hmirror : ∀ off ∈ [0x20, 0x24, 0x2C, 0x30, 0x34], off % 4 = 0 ∧ isMirror (regAt off) = true := by decide
  intro s off rest hb h
  refine ⟨fun hoff => ?_, ?_, ?_, ?_⟩
  · obtain ⟨ho, hm⟩ := hmirror off hoff
    exact step_hostRead_mirror_of_busy hb h ho hm
  all_goals
    rintro rfl
    exact step_hostRead h rfl (drawsValue_of_not_mirror s rfl)

/-! ### The spec's encoding vectors (95_test_vectors.md Part 2) -/

/-- Settles O4: the ten legal words are the encodings of their commands, and each refused word meets its one
condition of R86. -/
theorem specWordsDecode : Obligations.SpecWordsDecode :=
  ⟨encodeThenDecode .nop, encodeThenDecode (.bbWrite .b0), encodeThenDecode (.bbWrite .b1), encodeThenDecode .gfDiv,
    encodeThenDecode .plDiv, encodeThenDecode (.rsEncode .b0), encodeThenDecode (.rsEncode .b1),
    encodeThenDecode .fmLoad, encodeThenDecode (.place .b0), encodeThenDecode (.place .b1), rfl, rfl, rfl⟩

end Sys2Proof.Machine
end
